-- ==== Sys2Proof/Word.lean ====
section
/-! DEFINITION. The machine's plainest words: an operation word of a stimulus stream has 32 bits (30_encoding.md R50) and a
stream stored as bytes holds it as four of them (20_memory.md R47). -/

namespace Sys2Proof

/-- One byte of a stimulus stream, or one console character. -/
abbrev Byte := BitVec 8

/-- One operation word (R50). -/
abbrev Word := BitVec 32

end Sys2Proof
end

