-- ==== Sys2Proof/Config.lean ====
section
/-! DEFINITION. What an implementation fixes: the parameter record of 00_scope.md R5 with its constraints, its default
values, and the texts whose wording the spec does not give. -/

namespace Sys2Proof

/-- The parameter record of R5. The proof fields are R5's constraints, so a record that violates one cannot be written
down: "the model does not instantiate" (93_implementation_defined.md V12). `FAST_TICK_PERIOD` is no field, since no rule
depends on it (R5, R190). -/
structure Params where
  /-- `PERIOD`: fast ticks in one PWM period. -/
  period : Nat
  /-- `RAMP_DIV`: fast ticks between two steps of the breathing ramp. -/
  rampDiv : Nat
  /-- `ADC_MAX`: the largest analog reading. -/
  adcMax : Nat
  /-- `DEFAULT_MIN`: minutes of a malformed time entry. -/
  defaultMin : Nat
  /-- `DEFAULT_SEC`: seconds of a malformed time entry. -/
  defaultSec : Nat
  /-- `SEC_MAX`: the clamp of the seconds. -/
  secMax : Nat
  /-- `MIN_MAX`: the top of the minutes' range. -/
  minMax : Nat
  /-- `SLOW_DIV`: fast ticks in one slow tick, for `TICK`. -/
  slowDiv : Nat
  /-- `TICKS_PER_SEC`: slow ticks in one second of the countdown. -/
  ticksPerSec : Nat
  /-- `LONG_PRESS_TICKS`: the long-press threshold of a single button. -/
  longPressTicks : Nat
  /-- `COMBO_LONG_TICKS`: the long-press threshold of the two-button combo. -/
  comboLongTicks : Nat
  /-- `SETTLE_TICKS`: the settle delay of a single button. -/
  settleTicks : Nat
  /-- `HOLD_MAX`: where a hold counter saturates. -/
  holdMax : Nat
  /-- `DONE_TICKS`: slow ticks spent in `Done`. -/
  doneTicks : Nat
  /-- `DONE_TOGGLE_TICKS`: slow ticks between two swaps of the status pair in `Done`. -/
  doneToggleTicks : Nat
  /-- `PRIMARY_BTN`. -/
  primaryBtn : Fin 3
  /-- `COMBO_BTN_A`. -/
  comboBtnA : Fin 3
  /-- `COMBO_BTN_B`. -/
  comboBtnB : Fin 3
  /-- `PAUSE_BTN`. -/
  pauseBtn : Fin 3
  /-- `DUTY_MAP`: the duty target of an analog reading. -/
  dutyMap : Nat → Nat
  /-- `CMD_INFO`: the code of the command `'i'` (93_implementation_defined.md, end of section 3). -/
  cmdInfo : Byte
  /-- `CMD_BLINK`: the code of the command `'b'`. -/
  cmdBlink : Byte
  period_pos : 1 ≤ period
  rampDiv_pos : 1 ≤ rampDiv
  settle_pos : 1 ≤ settleTicks
  settle_le_longPress : settleTicks ≤ longPressTicks
  longPress_le_holdMax : longPressTicks ≤ holdMax
  comboLong_pos : 1 ≤ comboLongTicks
  comboLong_le_holdMax : comboLongTicks ≤ holdMax
  ticksPerSec_pos : 1 ≤ ticksPerSec
  doneToggle_pos : 1 ≤ doneToggleTicks
  doneTicks_pos : 1 ≤ doneTicks
  slowDiv_pos : 1 ≤ slowDiv
  combo_distinct : comboBtnA ≠ comboBtnB
  dutyMap_le : ∀ a, a ≤ adcMax → dutyMap a ≤ period
  /-- The two command codes are distinct (93_implementation_defined.md, end of section 3). -/
  cmd_distinct : cmdInfo ≠ cmdBlink

/-- The largest value the minutes' field holds: `MIN_MAX`, or a larger value that R103 writes, which is two decimal digits or
`DEFAULT_MIN`. R5: "a model with other values sizes its fields from the parameters" (DEDUCED, log 7). -/
def Params.minTop (p : Params) : Nat := max p.minMax (max 99 p.defaultMin)

/-- The largest value the seconds' field holds: `SEC_MAX`, or the 59 that a borrow writes (R101), if that is larger (DEDUCED,
log 7). -/
def Params.secTop (p : Params) : Nat := max p.secMax 59

/-- The parameter values this spec fixes for the hardware: the default column of R5. -/
def Config.params : Params where
  period := 5
  rampDiv := 150
  adcMax := 1023
  defaultMin := 0
  defaultSec := 10
  secMax := 59
  minMax := 99
  slowDiv := 20
  ticksPerSec := 50
  longPressTicks := 50
  comboLongTicks := 50
  settleTicks := 3
  holdMax := 65535
  doneTicks := 250
  doneToggleTicks := 10
  primaryBtn := 0
  comboBtnA := 1
  comboBtnB := 2
  pauseBtn := 2
  dutyMap := fun a => a * 5 / 1023
  cmdInfo := 0x69
  cmdBlink := 0x62
  period_pos := by decide
  rampDiv_pos := by decide
  settle_pos := by decide
  settle_le_longPress := by decide
  longPress_le_holdMax := by decide
  comboLong_pos := by decide
  comboLong_le_holdMax := by decide
  ticksPerSec_pos := by decide
  doneToggle_pos := by decide
  doneTicks_pos := by decide
  slowDiv_pos := by decide
  combo_distinct := by decide
  dutyMap_le := fun a h => by omega
  cmd_distinct := by decide

/-- FREE VALUE (log 8): the "Startup/`Waiting` banner and prompt text". R136: "The wording is not given". -/
opaque Config.waitingBannerText : String

/-- FREE VALUE (log 8): the `Countdown` "help banner". R136: "The wording is not given". -/
opaque Config.helpBannerText : String

/-- FREE VALUE (log 8): the "`Done` completion message". R136: "The wording is not given". -/
opaque Config.completionText : String

end Sys2Proof
end

