-- ==== Sys2Proof/Syntax.lean ====
section
/-! DEFINITION. The nine operations of the block (30_encoding.md R52), one constructor per row of the opcode table, and the
lines of the assembler's text form (R63, R64). -/

namespace Sys2Proof

/-- An operation with its operands. Each operand has exactly the width its format gives it (R51), so every value of this
type is a legal operation (R55 to R58). -/
inductive Instr where
  /-- `NOP`, format Z (R140). -/
  | nop
  /-- `RST`, format Z (R141). -/
  | rst
  /-- `FTICK`, format Z (R85). -/
  | ftick
  /-- `STICK`, format Z (R115). -/
  | stick
  /-- `TICK`, format Z (R142). -/
  | tick
  /-- `BTN lv`, format B (R143, R55). -/
  | btn (lv : BitVec 3)
  /-- `ADC val`, format A (R144, R56). -/
  | adc (val : BitVec 10)
  /-- `CMD ch`, format C (R145, R58). -/
  | cmd (ch : Byte)
  /-- `LINE n, dg`, format L (R104, R57). -/
  | line (n : BitVec 3) (dg : BitVec 16)
  deriving DecidableEq, Repr

/-- One line of the text form: an operation with its operands as the natural numbers that were written (R63), or a
pseudo-operation (R64). -/
inductive AsmLine where
  | nop
  | rst
  | ftick
  | stick
  | tick
  | btn (lv : Nat)
  | adc (val : Nat)
  | cmd (ch : Nat)
  | line (n dg : Nat)
  | fticks (c : Nat)
  | sticks (c : Nat)
  | ticks (c : Nat)
  | press (m : Nat)
  | release
  | hold (m c : Nat)
  | enter (text : List Char)
  | key (c : Char)
  deriving DecidableEq, Repr

end Sys2Proof
end

