-- ==== Sys2Proof/Decode.lean ====
section
/-! DEFINITION. The operation word: the opcode map of 30_encoding.md R52 as rows, the decoder (total, rejecting by name), the
encoder, and the byte form of a stimulus stream (20_memory.md R47, R48). -/

namespace Sys2Proof

/-- Why a word is an invalid operation word. -/
inductive DecodeError where
  /-- The opcode byte is one of `0x05 .. 0x0F`, `0x14 .. 0xFF` (R60). -/
  | unassignedOpcode (op : Byte)
  /-- The opcode is assigned, and a reserved operand bit is set (R59). -/
  | reservedBits (op : Byte)
  deriving DecidableEq, Repr

/-- The mnemonics of R52. -/
inductive Opcode where
  | nop | rst | ftick | stick | tick | btn | adc | cmd | line
  deriving DecidableEq, Repr

/-- A row of the opcode map: a word `W` is the operation iff `(W & mask) = pattern` (R52). -/
structure Row where
  opcode : Opcode
  pattern : Word
  mask : Word
  deriving DecidableEq, Repr

/-- The opcode map of R52, in its order. -/
def opcodeTable : List Row :=
  [ ⟨.nop, 0x00000000, 0xFFFFFFFF⟩,
    ⟨.rst, 0x01000000, 0xFFFFFFFF⟩,
    ⟨.ftick, 0x02000000, 0xFFFFFFFF⟩,
    ⟨.stick, 0x03000000, 0xFFFFFFFF⟩,
    ⟨.tick, 0x04000000, 0xFFFFFFFF⟩,
    ⟨.btn, 0x10000000, 0xFFFFFFF8⟩,
    ⟨.adc, 0x11000000, 0xFFFFFC00⟩,
    ⟨.cmd, 0x12000000, 0xFFFFFF00⟩,
    ⟨.line, 0x13000000, 0xFFF80000⟩ ]

/-- The word is the operation of this row. -/
def Row.matches (r : Row) (w : Word) : Bool := decide (w &&& r.mask = r.pattern)

/-- `W[31:24]` (R50). -/
def opcodeByte (w : Word) : Byte := w.extractLsb' 24 8

/-- The operation a word of this row stands for, its operands read where its format puts them (R51). -/
def Opcode.operation (w : Word) : Opcode → Instr
  | .nop => .nop
  | .rst => .rst
  | .ftick => .ftick
  | .stick => .stick
  | .tick => .tick
  | .btn => .btn (w.extractLsb' 0 3)
  | .adc => .adc (w.extractLsb' 0 10)
  | .cmd => .cmd (w.extractLsb' 0 8)
  | .line => .line (w.extractLsb' 16 3) (w.extractLsb' 0 16)

/-- Why a word that matches no row is invalid: its opcode is some row's, so a reserved bit is set, or it is none's. -/
def rejection (w : Word) : DecodeError :=
  if opcodeTable.any (fun r => decide (opcodeByte r.pattern = opcodeByte w)) then .reservedBits (opcodeByte w)
  else .unassignedOpcode (opcodeByte w)

/-- Decoding is total: every word is exactly one operation of R52 or invalid (R61). -/
def decodeWord (w : Word) : Except DecodeError Instr :=
  match opcodeTable.find? (fun r => r.matches w) with
  | some r => .ok (r.opcode.operation w)
  | none => .error (rejection w)

/-- The operation word of an operation: opcode byte, reserved zeros, operands (R51, R52). -/
def encode : Instr → Word
  | .nop => 0x00#8 ++ 0#24
  | .rst => 0x01#8 ++ 0#24
  | .ftick => 0x02#8 ++ 0#24
  | .stick => 0x03#8 ++ 0#24
  | .tick => 0x04#8 ++ 0#24
  | .btn lv => 0x10#8 ++ 0#21 ++ lv
  | .adc val => 0x11#8 ++ 0#14 ++ val
  | .cmd ch => 0x12#8 ++ 0#16 ++ ch
  | .line n dg => 0x13#8 ++ 0#5 ++ n ++ dg

/-- A word as a byte stream holds it: most significant byte first (R47 (c)). -/
def wordBytes (w : Word) : List Byte :=
  [w.extractLsb' 24 8, w.extractLsb' 16 8, w.extractLsb' 8 8, w.extractLsb' 0 8]

/-- The word that four bytes of a stream hold, most significant byte first (R47 (c)). -/
def wordOfBytes (b3 b2 b1 b0 : Byte) : Word := b3 ++ b2 ++ b1 ++ b0

/-- A stream of operations as bytes. -/
def streamBytes (ops : List Instr) : List Byte := ops.flatMap (fun i => wordBytes (encode i))

/-- Why a stream of bytes is refused, naming the word's index (R61). The first word has index 0 (DESIGN CHOICE, log 14). -/
inductive StreamError where
  /-- Word number `index` is an invalid operation word. -/
  | invalidWord (index : Nat) (why : DecodeError)
  /-- The length is not a multiple of 4: word number `index` is incomplete (R48). -/
  | partialWord (index : Nat)
  deriving DecidableEq, Repr

/-- The stream decoder of R61 on a whole stream, whose first word has the given index: the operations, or the first reason
to refuse the stream. -/
def decodeStream : Nat → List Byte → Except StreamError (List Instr)
  | _, [] => .ok []
  | k, b3 :: b2 :: b1 :: b0 :: rest =>
    match decodeWord (wordOfBytes b3 b2 b1 b0) with
    | .error e => .error (.invalidWord k e)
    | .ok i =>
      match decodeStream (k + 1) rest with
      | .error e => .error e
      | .ok is => .ok (i :: is)
  | k, _ => .error (.partialWord k)

/-- The operation that `w` stands for when the opcode table gives the row `nbits` bits: the word goes through its bytes and
the decoder. Bits from `nbits` up are 0. -/
def decodeTableWord (nbits w : Nat) : Option Instr :=
  if w % 2 ^ nbits < 2 ^ 32 then
    match wordBytes (BitVec.ofNat 32 (w % 2 ^ nbits)) with
    | [b3, b2, b1, b0] => (decodeWord (wordOfBytes b3 b2 b1 b0)).toOption
    | _ => none
  else none

end Sys2Proof
end

