-- ==== Sys2Proof/Machine/State.lean ====
section
/-! DEFINITION. The state of the block as plain data (10_state.md R10 to R30), its reset values (R33), and the reasons a step
can stop. Ranges that the spec bounds are in the types, so that a value outside one "cannot be written down" (R16). -/

namespace Sys2Proof.Machine

/-- `TimerState` (R12). -/
inductive TimerState where
  | waiting | timeEntry | countdown | done
  deriving DecidableEq, Repr

/-- The two phases of `TimeEntry` (R14). -/
inductive TePhase where
  | prompt | armed
  deriving DecidableEq, Repr

/-- The direction of the breathing ramp, `+1` or `-1` (R17). -/
inductive RampDir where
  | up | down
  deriving DecidableEq, Repr

/-- What a detector makes of one sample (R53). Never stored. -/
inductive Gesture where
  | idle | shortClick | longPress
  deriving DecidableEq, Repr

/-- The index of a hold counter (R20, R53). -/
inductive HoldIndex where
  | pri | pau | cmb
  deriving DecidableEq, Repr

/-- A `HoldCounter` (R20). -/
structure HoldCounter (p : Params) where
  active : Bool
  ticks : Fin (p.holdMax + 1)
  deriving DecidableEq, Repr

/-- `{active = 0, ticks = 0}` (R20). -/
def HoldCounter.zero (p : Params) : HoldCounter p := { active := false, ticks := 0 }

/-- The file of three hold counters (R20). -/
structure HoldFile (p : Params) where
  /-- `hold[PRI]`, the primary button in `Waiting`. -/
  pri : HoldCounter p
  /-- `hold[PAU]`, the abort/pause button in `Countdown`. -/
  pau : HoldCounter p
  /-- `hold[CMB]`, the two-button combo in `TimeEntry`, phase `Armed`. -/
  cmb : HoldCounter p
  deriving DecidableEq, Repr

/-- All three hold counters clear (R38). -/
def HoldFile.zero (p : Params) : HoldFile p :=
  { pri := HoldCounter.zero p, pau := HoldCounter.zero p, cmb := HoldCounter.zero p }

/-- The generator domain's fields (R10, R15 to R19). -/
structure Generator (p : Params) where
  /-- The position inside the PWM period (R15). -/
  counter : Fin p.period
  /-- The active fast ticks of each period, the cell both domains share (R16). -/
  target : Fin (p.period + 1)
  /-- The direction of the breathing ramp (R17). -/
  step : RampDir
  /-- The level of the brightness indicator (R18). -/
  pwmOut : Bool
  /-- Fast ticks since the last ramp step (R19). -/
  rampCount : Fin p.rampDiv
  deriving DecidableEq, Repr

/-- The generator right after reset (R33). -/
def Generator.reset (p : Params) : Generator p :=
  { counter := ⟨0, p.period_pos⟩, target := 0, step := .up, pwmOut := false, rampCount := ⟨0, p.rampDiv_pos⟩ }

/-- The control domain's fields (R10, R12 to R14, R20 to R23, R25 to R29). -/
structure Control (p : Params) where
  /-- `state` (R12). -/
  state : TimerState
  /-- The current state's first-entry action has been performed (R13). -/
  entered : Bool
  /-- The phase of `TimeEntry` (R14). -/
  tePhase : TePhase
  /-- The hold counters (R20). -/
  hold : HoldFile p
  /-- Minutes remaining (R21). -/
  minutes : Fin (p.minTop + 1)
  /-- Seconds remaining (R21). -/
  seconds : Fin (p.secTop + 1)
  /-- The pause flag (R22). -/
  paused : Bool
  /-- Slow ticks elapsed in the current second (R23). -/
  tickAcc : Fin p.ticksPerSec
  /-- Slow ticks spent in `Done` (R29). -/
  doneCount : Fin p.doneTicks
  /-- The extended status line is selected (R26). -/
  extendedInfo : Bool
  /-- The indicator mode is BLINK (R26). -/
  blinkIndicator : Bool
  /-- The blink phase (R26). -/
  blinkPhase : Bool
  /-- A console character is pending (R27). -/
  cmdAvail : Bool
  /-- The pending console character (R27). -/
  cmdChar : Byte
  /-- The last analog value sampled (R25), in `[0, ADC_MAX]`. -/
  adcSample : Fin (p.adcMax + 1)
  /-- The duty of that sample, before blink gating (R25). -/
  dutyTicks : Fin (p.period + 1)
  /-- The first status output (R28). -/
  statA : Bool
  /-- The second status output (R28). -/
  statB : Bool
  deriving DecidableEq, Repr

/-- The control domain right after reset (R33). -/
def Control.reset (p : Params) : Control p :=
  { state := .waiting, entered := false, tePhase := .prompt, hold := HoldFile.zero p, minutes := 0, seconds := 0,
    paused := false, tickAcc := ⟨0, p.ticksPerSec_pos⟩, doneCount := ⟨0, p.doneTicks_pos⟩, extendedInfo := false,
    blinkIndicator := false, blinkPhase := false, cmdAvail := false, cmdChar := 0, adcSample := 0, dutyTicks := 0,
    statA := false, statB := false }

/-- The output record of one operation (R37). -/
structure Out where
  evWaiting : Bool
  evPrompt : Bool
  evBanner : Bool
  evStatus : Bool
  evDone : Bool
  deriving DecidableEq, Repr

/-- No event output: "all 0 unless the rule performing the operation says `emit`" (R37). -/
def Out.none : Out :=
  { evWaiting := false, evPrompt := false, evBanner := false, evStatus := false, evDone := false }

/-- The block with its pins: the record `S` of R10 (the two domains and the slow-tick divider), the environment's two input
pins (R24), and the output record of the operation performed last (R37; a field of the model, log 4). -/
structure Block (p : Params) where
  gen : Generator p
  ctl : Control p
  /-- Fast ticks since the last slow tick that `TICK` derived (R30). -/
  slowDiv : Fin p.slowDiv
  /-- The raw levels of the three buttons, 0 when pressed (R24). -/
  pinBtn : BitVec 3
  /-- The analog value (R24), in `[0, ADC_MAX]`: 10 bits at the default (R5). -/
  pinAdc : Fin (p.adcMax + 1)
  /-- The event outputs of the last operation. -/
  out : Out
  deriving DecidableEq, Repr

/-- The machine: the block, running at the default parameters of R5, and the stimulus stream it is fed (R50), of which
`wordIndex` words were performed. The stream is no state of the block (R10): it stands for whoever feeds it (log 1). -/
structure State where
  blk : Block Config.params
  stream : List Byte
  wordIndex : Nat
  deriving DecidableEq, Repr

/-- The reasons a step can end in a fault. There is none: "A model's step function for the block therefore has no fault
outcome" (60_exceptions.md R155). -/
inductive Fault where
  deriving DecidableEq, Repr

/-- The reasons a step is refused. All but the first are the stream decoder's (R61), and all are safe: the run stops, so no
false claim about a later state can be proved from them. A word's index counts from 0 (DESIGN CHOICE, log 14). -/
inductive Refusal where
  /-- An arm of `exec` that has no meaning yet. No arm raises it. Safe. -/
  | notModelled (mnemonic : String)
  /-- Raised by the fetch where the next word of the stream is an invalid operation word, and by the loading of a stream
  that holds one (R59 to R61). Safe. -/
  | invalidWord (index : Nat) (why : DecodeError)
  /-- Raised by the fetch, and by the loading of a stream, where fewer than four bytes are left (R48, R61). Safe. -/
  | partialWord (index : Nat)
  /-- Raised by the fetch where no word is left: "the run ends with the last word" (R50). Safe. -/
  | streamEnd
  deriving DecidableEq, Repr

/-- The block right after power-on, which performs `RST` once (R33, R175). The pins are not reset by it: their values here
are the ones the spec's test programs start from (R24; DESIGN CHOICE, log 3). -/
def Block.reset (p : Params) : Block p :=
  { gen := Generator.reset p, ctl := Control.reset p, slowDiv := ⟨0, p.slowDiv_pos⟩, pinBtn := 0b111, pinAdc := 0,
    out := Out.none }

/-- The machine right after reset: no stream is loaded (log 1). -/
def State.reset : State := { blk := Block.reset Config.params, stream := [], wordIndex := 0 }

end Sys2Proof.Machine
end

