-- ==== Sys2Proof/Machine/Ops.lean ====
section
/-! DEFINITION. The named operations the meanings share: arithmetic of the notation (00_scope.md R6), counters that wrap,
event outputs (10_state.md R37), and the helpers `clearHolds` and `resetControl` (R38, R39). The block has no memory, takes no
exception and returns from none (20_memory.md R40, 60_exceptions.md R155, R163), so no such operation is here. -/

namespace Sys2Proof.Machine

variable {p : Params}

/-- `clamp(v, lo, hi) = max(lo, min(hi, v))` (R6). -/
def clamp (v lo hi : Int) : Int := max lo (min hi v)

/-- `sat(v, m) = min(v, m)` (R6). -/
def sat (v m : Nat) : Nat := min v m

/-- A counter of range `0 .. n-1` stands at its last value: the next advance wraps (R165). -/
def atTop {n : Nat} (c : Fin n) : Bool := decide (c.val + 1 = n)

/-- A counter of range `0 .. n-1` advanced by one, wrapping to 0 at the top (R165). -/
def wrapNext {n : Nat} (c : Fin n) : Fin n :=
  if h : c.val + 1 < n then ⟨c.val + 1, h⟩ else ⟨0, c.pos⟩

/-- The five event outputs by name (R37). -/
inductive Event where
  | waiting | prompt | banner | status | done
  deriving DecidableEq, Repr

/-- `emit E`: sets event output `E` of the output record to 1 (R7). -/
def Out.emit (o : Out) : Event → Out
  | .waiting => { o with evWaiting := true }
  | .prompt => { o with evPrompt := true }
  | .banner => { o with evBanner := true }
  | .status => { o with evStatus := true }
  | .done => { o with evDone := true }

/-- The event outputs of two operations together. -/
def Out.merge (o o' : Out) : Out :=
  { evWaiting := o.evWaiting || o'.evWaiting, evPrompt := o.evPrompt || o'.evPrompt, evBanner := o.evBanner || o'.evBanner,
    evStatus := o.evStatus || o'.evStatus, evDone := o.evDone || o'.evDone }

/-- The start of an operation: its output record is all 0 (R37). -/
def Block.quiet (b : Block p) : Block p := { b with out := Out.none }

/-- Emits an event. -/
def Block.emit (b : Block p) (e : Event) : Block p := { b with out := b.out.emit e }

/-- The hold counter with an index (R20). -/
def HoldFile.get (f : HoldFile p) : HoldIndex → HoldCounter p
  | .pri => f.pri
  | .pau => f.pau
  | .cmb => f.cmb

/-- The hold counter with an index, written (R20). -/
def HoldFile.set (f : HoldFile p) (k : HoldIndex) (hc : HoldCounter p) : HoldFile p :=
  match k with
  | .pri => { f with pri := hc }
  | .pau => { f with pau := hc }
  | .cmb => { f with cmb := hc }

/-- `hold[k] <- hc`. -/
def Control.setHold (c : Control p) (k : HoldIndex) (hc : HoldCounter p) : Control p :=
  { c with hold := c.hold.set k hc }

/-- `clearHolds()` (R38). -/
def Control.clearHolds (c : Control p) : Control p := { c with hold := HoldFile.zero p }

/-- `state <- st ; entered <- 0 ; clearHolds()`: what every change of state does (R126). -/
def Control.goTo (c : Control p) (st : TimerState) : Control p :=
  { c.clearHolds with state := st, entered := false }

/-- `resetControl()`: every control-domain field takes its reset value, nothing else is written (R39). -/
def Block.resetControl (b : Block p) : Block p := { b with ctl := Control.reset p }

/-- The state with another block; the stream is no operation's to change (R41). -/
def State.withBlock (s : State) (b : Block Config.params) : State := { s with blk := b }

end Sys2Proof.Machine
end

