-- ==== Sys2Proof/Machine/Operands.lean ====
section
/-! DEFINITION. The operand forms (30_encoding.md R55 to R58) and the encodings of the enumerations (R53). -/

namespace Sys2Proof.Machine

/-- The raw level of button `k` in the levels `lv`: bit `k` (R55, R47 (b)). -/
def buttonLevel (lv : BitVec 3) (k : Fin 3) : Bool := lv.getLsbD k.val

/-- The nibble `d<k>` of the digits of a `LINE`: `d0 = dg[3:0]` is the last digit extracted (R57). -/
def nibble (dg : BitVec 16) (k : Nat) : BitVec 4 := dg.extractLsb' (4 * k) 4

/-- The digit a nibble holds; a nibble above 9 is not a digit (R57). -/
def digit? (x : BitVec 4) : Option (Fin 10) :=
  if h : x.toNat < 10 then some ⟨x.toNat, h⟩ else none

/-- The number two digits write, the first the more significant (R47 (a)). -/
def twoDigits (hi lo : Fin 10) : Fin 100 := ⟨10 * hi.val + lo.val, by omega⟩

/-- The analog reading that the operand of `ADC` gives the machine: all 1024 values are readings at the default `ADC_MAX`
(R56). -/
def analogReading (val : BitVec 10) : Fin (Config.params.adcMax + 1) := ⟨val.toNat, val.isLt⟩

/-- `DUTY_MAP(a)` of an analog reading, in range by the parameter record's constraint (R5, R24). -/
def dutyOf (p : Params) (a : Fin (p.adcMax + 1)) : Fin (p.period + 1) :=
  ⟨p.dutyMap a.val, Nat.lt_succ_of_le (p.dutyMap_le a.val (Nat.le_of_lt_succ a.isLt))⟩

/-- The code of a `TimerState`, as port `state[1:0]` shows it (R12, R53). -/
def TimerState.code : TimerState → BitVec 2
  | .waiting => 0
  | .timeEntry => 1
  | .countdown => 2
  | .done => 3

/-- The code of a `Gesture`; 3 is never produced (R53). -/
def Gesture.code : Gesture → BitVec 2
  | .idle => 0
  | .shortClick => 1
  | .longPress => 2

/-- The code of `step` (R17, R53). -/
def RampDir.code : RampDir → BitVec 1
  | .up => 0
  | .down => 1

/-- The code of `tePhase` (R14, R53). -/
def TePhase.code : TePhase → BitVec 1
  | .prompt => 0
  | .armed => 1

/-- The code of a hold index (R20, R53). -/
def HoldIndex.code : HoldIndex → BitVec 2
  | .pri => 0
  | .pau => 1
  | .cmb => 2

/-- The integer `step` stands for (R17). -/
def RampDir.toInt : RampDir → Int
  | .up => 1
  | .down => -1

end Sys2Proof.Machine
end

