-- ==== Sys2Proof/Machine/Flags.lean ====
section
/-! DEFINITION. The one-bit conditions the rules compute. The block has no arithmetic condition codes (10_state.md R10 lists
every field); these are read where a rule names them and stored nowhere. -/

namespace Sys2Proof.Machine

variable {p : Params}

/-- `pressed(k) = (pinBtn[k] == 0)` (00_scope.md R8). -/
def pressed (pins : BitVec 3) (k : Fin 3) : Bool := !buttonLevel pins k

/-- `comboAsserted`: both combo buttons are pressed (40_debounce_gesture.md R73). -/
def comboAsserted (p : Params) (pins : BitVec 3) : Bool := pressed pins p.comboBtnA && pressed pins p.comboBtnB

/-- A short click of a single button that lasted at least the settle delay (R74). A long press always qualifies. -/
def qualifyingClick (p : Params) (ev : Gesture) (n : Nat) : Bool :=
  decide (ev = .shortClick) && decide (p.settleTicks ≤ n)

/-- `breathe`: the one thing the generator takes from the rest of the block (41_pwm_breathing.md R92). -/
def Control.breathe (c : Control p) : Bool := decide (c.state = .waiting)

/-- A `LINE` is accepted: the prompt was issued and no duration is armed yet (42_countdown_engine.md R104). -/
def Control.acceptsLine (c : Control p) : Bool :=
  decide (c.state = .timeEntry) && decide (c.tePhase = .prompt) && c.entered

/-- BLINK mode in its dark phase: the indicator is gated off (43_fsm_controller.md R122). -/
def Control.darkPhase (c : Control p) : Bool := c.blinkIndicator && !c.blinkPhase

/-- The next advance of `tickAcc` completes a second (R123). -/
def Control.secondBoundary (c : Control p) : Bool := atTop c.tickAcc

end Sys2Proof.Machine
end

