-- ==== Sys2Proof/Machine/Countdown.lean ====
section
/-! DEFINITION. The countdown engine (42_countdown_engine.md): the decrement, the parse of a time entry, and `LINE`. -/

namespace Sys2Proof.Machine

variable {p : Params}

/-- A duration as the engine's two counters hold it (10_state.md R21). -/
structure Duration (p : Params) where
  minutes : Fin (p.minTop + 1)
  seconds : Fin (p.secTop + 1)
  deriving DecidableEq, Repr

/-- The remaining duration (R21). -/
def Control.duration (c : Control p) : Duration p := { minutes := c.minutes, seconds := c.seconds }

/-- `(minutes, seconds) <- d`. -/
def Control.setDuration (c : Control p) (d : Duration p) : Control p :=
  { c with minutes := d.minutes, seconds := d.seconds }

/-- `(0, 0)` (R106). -/
def Duration.zero (p : Params) : Duration p := { minutes := 0, seconds := 0 }

/-- The decrement with borrow; at `(0, 0)` it changes nothing (R101). -/
def Duration.decrement (d : Duration p) : Duration p :=
  if d.seconds.val ≠ 0 then { d with seconds := ⟨d.seconds.val - 1, by omega⟩ }
  else if d.minutes.val ≠ 0 then
    { minutes := ⟨d.minutes.val - 1, by omega⟩, seconds := ⟨59, by unfold Params.secTop; omega⟩ }
  else Duration.zero p

/-- `complete`, of the duration a decrement leaves (R101). -/
def Duration.complete (d : Duration p) : Bool := decide (d.minutes.val = 0) && decide (d.seconds.val = 0)

/-- The minutes and seconds that the digits write, before the clamp: `MMSS`, `MSS` or `SS`, by the digit count; none where
the count is another or a nibble that counts is no digit (R103). -/
def parseDigits (n : BitVec 3) (dg : BitVec 16) : Option (Fin 100 × Fin 100) :=
  match n.toNat, digit? (nibble dg 3), digit? (nibble dg 2), digit? (nibble dg 1), digit? (nibble dg 0) with
  | 4, some d3, some d2, some d1, some d0 => some (twoDigits d3 d2, twoDigits d1 d0)
  | 3, _, some d2, some d1, some d0 => some (twoDigits 0 d2, twoDigits d1 d0)
  | 2, _, _, some d1, some d0 => some (0, twoDigits d1 d0)
  | _, _, _, _, _ => none

/-- Seconds clamped to `SEC_MAX`, no carry into the minutes (R103). -/
def clampSeconds (p : Params) (v : Nat) : Fin (p.secTop + 1) := ⟨min v p.secMax, by unfold Params.secTop; omega⟩

/-- `parseDuration(n, dg)` (R103). -/
def parseDuration (p : Params) (n : BitVec 3) (dg : BitVec 16) : Duration p :=
  match parseDigits n dg with
  | some (m, v) =>
    { minutes := ⟨m.val, by unfold Params.minTop; omega⟩, seconds := clampSeconds p v.val }
  | none =>
    { minutes := ⟨p.defaultMin, by unfold Params.minTop; omega⟩, seconds := clampSeconds p p.defaultSec }

/-- `LINE n, dg` on the block: a line that nobody waits for is dropped (R104). It emits nothing. -/
def Block.line (b : Block p) (n : BitVec 3) (dg : BitVec 16) : Block p :=
  if b.ctl.acceptsLine then
    { b.quiet with
      ctl := { (b.ctl.setDuration (parseDuration p n dg)).setHold .cmb (HoldCounter.zero p) with tePhase := .armed } }
  else b.quiet

/-- `LINE n, dg` (R104). -/
def execLine (n : BitVec 3) (dg : BitVec 16) (s : State) : Host.Outcome State Fault Refusal :=
  .next (s.withBlock (s.blk.line n dg))

end Sys2Proof.Machine
end

