-- ==== Sys2Proof/Machine/Gesture.lean ====
section
/-! DEFINITION. The debounce and gesture detector (40_debounce_gesture.md): one sample of one hold counter, which `STICK` takes
for each counter the current state monitors. -/

namespace Sys2Proof.Machine

variable {p : Params}

/-- `classify(t, threshold)` (R72). -/
def classify (t threshold : Nat) : Gesture :=
  if t = 0 then .idle else if threshold ≤ t then .longPress else .shortClick

/-- What one sample gives: the new counter, the gesture, and the tick count it was classified from (R71). -/
structure HoldResult (p : Params) where
  hc : HoldCounter p
  ev : Gesture
  n : Nat
  deriving DecidableEq, Repr

/-- One more asserted tick, saturating at `HOLD_MAX` (R71, R78). -/
def satTick (t : Fin (p.holdMax + 1)) : Fin (p.holdMax + 1) :=
  ⟨sat (t.val + 1) p.holdMax, by unfold sat; omega⟩

/-- `holdStep(hc, asserted, threshold)` (R71). -/
def holdStep (hc : HoldCounter p) (asserted : Bool) (threshold : Nat) : HoldResult p :=
  if asserted then { hc := { active := true, ticks := satTick hc.ticks }, ev := .idle, n := 0 }
  else { hc := HoldCounter.zero p, ev := classify hc.ticks.val threshold, n := hc.ticks.val }

end Sys2Proof.Machine
end

