-- ==== Sys2Proof/Machine/Controller.lean ====
section
/-! DEFINITION. `STICK`: one evaluation of the FSM controller (43_fsm_controller.md). Each sub-rule is a function of the block as
the sub-rule before it left it (R115). -/

namespace Sys2Proof.Machine

variable {p : Params}

/-- `Waiting`, first-entry action (R116). -/
def Block.waitingEntry (b : Block p) : Block p :=
  { b.emit .waiting with ctl := { b.ctl with entered := true } }

/-- `Waiting`, tick body (R117). -/
def Block.waitingBody (b : Block p) : Block p :=
  let r := holdStep b.ctl.hold.pri (pressed b.pinBtn p.primaryBtn) p.longPressTicks
  let c := b.ctl.setHold .pri r.hc
  if qualifyingClick p r.ev r.n then { b with ctl := { c.goTo .timeEntry with tePhase := .prompt } }
  else { b with ctl := c }

/-- `TimeEntry`, first-entry action (R118). -/
def Block.timeEntryEntry (b : Block p) : Block p :=
  { b.emit .prompt with
    ctl := { b.ctl with entered := true, tePhase := .prompt, statA := false, statB := false },
    gen := { b.gen with target := 0 } }

/-- `TimeEntry`, tick body: in phase `Armed` the combo is sampled; in `Prompt` the block waits for `LINE` (R119). -/
def Block.timeEntryBody (b : Block p) : Block p :=
  match b.ctl.tePhase with
  | .prompt => b
  | .armed =>
    let r := holdStep b.ctl.hold.cmb (comboAsserted p b.pinBtn) p.comboLongTicks
    let c := b.ctl.setHold .cmb r.hc
    match r.ev with
    | .longPress =>
      { b with
        ctl := { (c.setDuration (Duration.zero p)).clearHolds with tePhase := .prompt, entered := false } }
    | .shortClick => { b with ctl := { c.goTo .countdown with tePhase := .prompt } }
    | .idle => { b with ctl := c }

/-- `Countdown`, first-entry action (R120). -/
def Block.countdownEntry (b : Block p) : Block p :=
  { b.emit .banner with
    ctl := { b.ctl with
      paused := false, blinkPhase := false, tickAcc := ⟨0, p.ticksPerSec_pos⟩, statA := false, statB := false,
      cmdAvail := false, entered := true } }

/-- What step (1) of `Countdown` makes of the abort/pause button. -/
inductive Served (p : Params) where
  /-- The countdown was aborted: the rest of the tick is not performed. -/
  | aborted (b : Block p)
  /-- The tick goes on. -/
  | goesOn (b : Block p)
  deriving DecidableEq, Repr

/-- `Countdown`, step (1): the abort/pause button (R121). -/
def Block.countdownButton (b : Block p) : Served p :=
  let r := holdStep b.ctl.hold.pau (pressed b.pinBtn p.pauseBtn) p.longPressTicks
  let c := b.ctl.setHold .pau r.hc
  if r.ev = .longPress then
    .aborted { b with ctl := { (c.setDuration (Duration.zero p)).goTo .done with cmdAvail := false } }
  else if qualifyingClick p r.ev r.n then .goesOn { b with ctl := { c with paused := !c.paused } }
  else .goesOn { b with ctl := c }

/-- The effect of one console command character; any other character is ignored (R54, R121). -/
def Control.command (c : Control p) (ch : Byte) : Control p :=
  if ch = p.cmdInfo then { c with extendedInfo := !c.extendedInfo }
  else if ch = p.cmdBlink then { c with blinkIndicator := !c.blinkIndicator }
  else c

/-- `Countdown`, step (2): drains at most one pending character (R121). -/
def Block.countdownCommand (b : Block p) : Block p :=
  if b.ctl.cmdAvail then { b with ctl := { b.ctl.command b.ctl.cmdChar with cmdAvail := false } }
  else b

/-- `programTarget()`: samples the analog value and programs the duty target, gated in the dark phase of BLINK mode
(R122). -/
def Block.programTarget (b : Block p) : Block p :=
  { b with
    ctl := { b.ctl with adcSample := b.pinAdc, dutyTicks := dutyOf p b.pinAdc },
    gen := { b.gen with target := if b.ctl.darkPhase then 0 else dutyOf p b.pinAdc } }

/-- An unpaused second boundary: decrement, flip the status output and the blink phase, emit a status line, and leave for
`Done` when the countdown is complete (R123). -/
def Block.unpausedSecond (b : Block p) : Block p :=
  let d := b.ctl.duration.decrement
  let c := { b.ctl.setDuration d with statA := !b.ctl.statA, blinkPhase := !b.ctl.blinkPhase }
  { b.emit .status with ctl := if d.complete then c.goTo .done else c }

/-- `Countdown`, step (4): the tick accumulator and the second boundary (R123). -/
def Block.countdownSecond (b : Block p) : Block p :=
  let b' := { b with ctl := { b.ctl with tickAcc := wrapNext b.ctl.tickAcc } }
  if b.ctl.secondBoundary && !b.ctl.paused then b'.unpausedSecond else b'

/-- `Countdown`, tick body: steps (1) to (4); an abort skips the other three (R115, R121). -/
def Block.countdownBody (b : Block p) : Block p :=
  match b.countdownButton with
  | .aborted b' => b'
  | .goesOn b' => b'.countdownCommand.programTarget.countdownSecond

/-- `Done`, first-entry action (R124). -/
def Block.doneEntry (b : Block p) : Block p :=
  { b.emit .done with
    ctl := { b.ctl with
      blinkIndicator := false, doneCount := ⟨0, p.doneTicks_pos⟩, statA := true, statB := false, entered := true } }

/-- The slow ticks of `Done` on which the status pair is swapped (R125). -/
def Control.swapsPair (c : Control p) : Bool := decide ((c.doneCount.val + 1) % p.doneToggleTicks = 0)

/-- A tick of `Done` that is not its last: counts it, and swaps the status pair when it is time (R125). -/
def Control.doneCounted (c : Control p) : Control p :=
  let c' := { c with doneCount := wrapNext c.doneCount }
  if c.swapsPair then { c' with statA := !c.statA, statB := !c.statB } else c'

/-- `Done`, tick body (R125). -/
def Block.doneBody (b : Block p) : Block p :=
  let b' := b.programTarget
  if atTop b'.ctl.doneCount then b'.resetControl else { b' with ctl := b'.ctl.doneCounted }

/-- A first-entry action runs while `entered` is 0 (R13, R115). -/
def Block.enter (b : Block p) (action : Block p → Block p) : Block p :=
  if b.ctl.entered then b else action b

/-- `STICK` on the block. The state examined is the one at its start (R115). -/
def Block.slowTick (b : Block p) : Block p :=
  match b.ctl.state with
  | .waiting => (b.quiet.enter Block.waitingEntry).waitingBody
  | .timeEntry => (b.quiet.enter Block.timeEntryEntry).timeEntryBody
  | .countdown => (b.quiet.enter Block.countdownEntry).countdownBody
  | .done => (b.quiet.enter Block.doneEntry).doneBody

/-- `STICK` (R115). -/
def execStick (s : State) : Host.Outcome State Fault Refusal := .next (s.withBlock s.blk.slowTick)

end Sys2Proof.Machine
end

