-- ==== Sys2Proof/Machine/Generator.lean ====
section
/-! DEFINITION. `FTICK`: the software PWM and the breathing ramp (41_pwm_breathing.md), built on the narrow generator slice
alone (R92). -/

namespace Sys2Proof.Machine

variable {p : Params}

/-- `clamp(target + step, 0, PERIOD)` (R89). -/
def rampTarget (t : Fin (p.period + 1)) (d : RampDir) : Fin (p.period + 1) :=
  ⟨(clamp (t.val + d.toInt) 0 p.period).toNat, by unfold clamp; omega⟩

/-- The direction after a ramp step that reached `t`: it points away from the bound just reached (R89). -/
def rampDir (t : Fin (p.period + 1)) (d : RampDir) : RampDir :=
  if t.val = p.period then .down else if t.val = 0 then .up else d

/-- The PWM step: compare with the old counter and the old target, then advance the counter (R86). -/
def Generator.pwmStep (g : Generator p) : Generator p :=
  { g with pwmOut := decide (g.counter.val < g.target.val), counter := wrapNext g.counter }

/-- `rampStep()` (R89). -/
def Generator.rampStep (g : Generator p) : Generator p :=
  { g with target := rampTarget g.target g.step, step := rampDir (rampTarget g.target g.step) g.step }

/-- The ramp interval: every `RAMP_DIV`-th fast tick of `Waiting` performs a ramp step; elsewhere the interval restarts
(R88). -/
def Generator.ramp (g : Generator p) (breathe : Bool) : Generator p :=
  if breathe then
    if atTop g.rampCount then { g.rampStep with rampCount := wrapNext g.rampCount }
    else { g with rampCount := wrapNext g.rampCount }
  else { g with rampCount := ⟨0, p.rampDiv_pos⟩ }

/-- One invocation of the generator (R85, R92): both steps read the fields as they were before, and write disjoint ones. -/
def Generator.tick (g : Generator p) (breathe : Bool) : Generator p :=
  { g.ramp breathe with pwmOut := g.pwmStep.pwmOut, counter := g.pwmStep.counter }

/-- `FTICK` on the block (R85). It emits nothing. -/
def Block.fastTick (b : Block p) : Block p :=
  { b.quiet with gen := b.gen.tick b.ctl.breathe }

/-- `FTICK` (R85). -/
def execFtick (s : State) : Host.Outcome State Fault Refusal := .next (s.withBlock s.blk.fastTick)

end Sys2Proof.Machine
end

