-- ==== Sys2Proof/Machine/HostOps.lean ====
section
/-! DEFINITION. The host and environment operations (44_host_operations.md): `NOP`, `RST`, `TICK`, `BTN`, `ADC`, `CMD`. -/

namespace Sys2Proof.Machine

variable {p : Params}

/-- `NOP` (R140): nothing is written and nothing emitted. -/
def execNop (s : State) : Host.Outcome State Fault Refusal := .next (s.withBlock s.blk.quiet)

/-- `RST` on the block: `resetControl()`, the generator and the divider; the pins stay (R141). -/
def Block.restart (b : Block p) : Block p :=
  { b.quiet.resetControl with gen := Generator.reset p, slowDiv := ⟨0, p.slowDiv_pos⟩ }

/-- `RST` (R141). -/
def execRst (s : State) : Host.Outcome State Fault Refusal := .next (s.withBlock s.blk.restart)

/-- `TICK` on the block: a fast tick, and on every `SLOW_DIV`-th one a slow tick on the state the fast tick left (R142). -/
def Block.derivedTick (b : Block p) : Block p :=
  let b' := { b.fastTick with slowDiv := wrapNext b.slowDiv }
  if atTop b.slowDiv then b'.slowTick else b'

/-- `TICK` (R142). -/
def execTick (s : State) : Host.Outcome State Fault Refusal := .next (s.withBlock s.blk.derivedTick)

/-- `BTN lv` (R143): the levels are copied, not inverted (R55). -/
def execBtn (lv : BitVec 3) (s : State) : Host.Outcome State Fault Refusal :=
  .next (s.withBlock { s.blk.quiet with pinBtn := lv })

/-- `ADC val` (R144). -/
def execAdc (val : BitVec 10) (s : State) : Host.Outcome State Fault Refusal :=
  .next (s.withBlock { s.blk.quiet with pinAdc := analogReading val })

/-- `CMD ch` on the block: latched in `Countdown`, over an undrained character; dropped elsewhere (R145). -/
def Block.command (b : Block p) (ch : Byte) : Block p :=
  if b.ctl.state = .countdown then { b.quiet with ctl := { b.ctl with cmdChar := ch, cmdAvail := true } }
  else b.quiet

/-- `CMD ch` (R145). -/
def execCmd (ch : Byte) (s : State) : Host.Outcome State Fault Refusal := .next (s.withBlock (s.blk.command ch))

end Sys2Proof.Machine
end

