-- ==== Sys2Proof/Machine/Dispatch.lean ====
section
/-! DEFINITION. One arm per operation of the opcode table, each one direct call of its meaning. -/

namespace Sys2Proof.Machine

def exec (i : Instr) (s : State) : Host.Outcome State Fault Refusal :=
  match i with
  | .nop => Sys2Proof.Machine.execNop s
  | .rst => Sys2Proof.Machine.execRst s
  | .ftick => Sys2Proof.Machine.execFtick s
  | .stick => Sys2Proof.Machine.execStick s
  | .tick => Sys2Proof.Machine.execTick s
  | .btn lv => Sys2Proof.Machine.execBtn lv s
  | .adc val => Sys2Proof.Machine.execAdc val s
  | .cmd ch => Sys2Proof.Machine.execCmd ch s
  | .line n dg => Sys2Proof.Machine.execLine n dg s

end Sys2Proof.Machine
end

