-- ==== Sys2Proof/Machine/Fetch.lean ====
section
/-! DEFINITION. The stimulus stream: taking its next operation, placing a word there, and loading a whole stream
(30_encoding.md R50, R61; log 1, log 2). -/

namespace Sys2Proof.Machine

/-- The operation the next word of the stream stands for, and the state with that word taken. Nothing left is the end of the
run (R50); an incomplete or invalid word is refused, naming its index, and never performed as a `NOP` (R61). The
index counts from 0 (DESIGN CHOICE, log 14). -/
def State.fetch (s : State) : Except Refusal (Instr × State) :=
  match s.stream with
  | [] => .error .streamEnd
  | b3 :: b2 :: b1 :: b0 :: rest =>
    match decodeWord (wordOfBytes b3 b2 b1 b0) with
    | .ok i => .ok (i, { s with stream := rest, wordIndex := s.wordIndex + 1 })
    | .error e => .error (.invalidWord s.wordIndex e)
  | _ => .error (.partialWord s.wordIndex)

/-- The state with a word in the place of the stream's next word. -/
def State.placeWord (s : State) (w : Word) : State := { s with stream := wordBytes w ++ s.stream.drop 4 }

/-- A stream error as a refusal. -/
def StreamError.toRefusal : StreamError → Refusal
  | .invalidWord k e => .invalidWord k e
  | .partialWord k => .partialWord k

/-- Loading a whole stream: the stream decoder refuses one that holds an invalid word, or whose length is not a multiple of
4, before any of it is performed (R61). The refusal names the word's index in the stream, counted from 0: the spec does not say
from where (DESIGN CHOICE, log 14). -/
def State.load (s : State) (bytes : List Byte) : Host.Outcome State Fault Refusal :=
  match decodeStream 0 bytes with
  | .ok _ => .next { s with stream := bytes, wordIndex := 0 }
  | .error e => .refused (StreamError.toRefusal e)

end Sys2Proof.Machine
end

