-- ==== Sys2Proof/Machine/Step.lean ====
section
/-! DEFINITION. One step: the next operation of the stimulus stream is performed, as one atomic event (20_memory.md R43). -/

namespace Sys2Proof.Machine

/-- Takes the next word of the stream and performs its operation. -/
def step (s : State) : Host.Outcome State Fault Refusal :=
  match s.fetch with
  | .ok (i, s') => exec i s'
  | .error r => .refused r

/-- The state in which the very next step fetches the word `w` of `nbits` bits: it takes the place of the stream's next word,
as a stream loaded from outside would hold it (log 1). -/
def State.withFetchWord (s : State) (nbits w : Nat) : State :=
  s.placeWord (BitVec.ofNat 32 (w % 2 ^ nbits))

end Sys2Proof.Machine
end

