-- ==== Sys2Proof/WellFormed.lean ====
section
/-! DEFINITION. The operand ranges of the assembler's text form. An operation itself (`Instr`) needs no check: the widths of
its operands are in its type. -/

namespace Sys2Proof

/-- Every operand of the line is within the range R63 gives it: "An operand outside its range is an assembly error". The
button set of `press` and `hold` is a "3-bit set" and a `key` is one 8-bit character (R64); one from 128 to
255, which has no ASCII code, is accepted with its Unicode code (DESIGN CHOICE, log 10). -/
def AsmLine.wellFormed : AsmLine → Bool
  | .nop => true
  | .rst => true
  | .ftick => true
  | .stick => true
  | .tick => true
  | .btn lv => decide (lv ≤ 7)
  | .adc val => decide (val ≤ 1023)
  | .cmd ch => decide (ch ≤ 255)
  | .line n dg => decide (n ≤ 7) && decide (dg ≤ 0xFFFF)
  | .fticks _ => true
  | .sticks _ => true
  | .ticks _ => true
  | .press m => decide (m ≤ 7)
  | .release => true
  | .hold m _ => decide (m ≤ 7)
  | .enter _ => true
  | .key c => decide (c.toNat ≤ 255)

end Sys2Proof
end

