-- ==== Sys2Proof/Machine/Assembler.lean ====
section
/-! DEFINITION. The text form of a stimulus stream (30_encoding.md R63), its pseudo-operations (R64), and the reduction of a
console line to digits that the surrounding software performs (R57, 92_eei_decisions.md D26). -/

namespace Sys2Proof.Machine

/-- The value of a decimal digit character. -/
def charDigit? (c : Char) : Option (BitVec 4) :=
  if c.isDigit then some (BitVec.ofNat 4 (c.toNat - '0'.toNat)) else none

/-- The digits a line of text is reduced to: characters that are no digits are skipped, and extraction stops after the
fourth digit (R57, D26). -/
def lineDigits (text : List Char) : List (BitVec 4) := (text.filterMap charDigit?).take 4

/-- The operands `n` and `dg` of a line: the digit count, and the digits right-aligned (R57). -/
def lineOperands (text : List Char) : BitVec 3 × BitVec 16 :=
  (BitVec.ofNat 3 (lineDigits text).length,
    (lineDigits text).foldl (fun acc d => acc <<< 4 ||| d.setWidth 16) 0)

/-- The `BTN` that presses the buttons in the set `m` and releases the others: `btn (7 & ~m)` (R64). -/
def pressOp (m : Nat) : Instr := .btn (0b111 &&& ~~~(BitVec.ofNat 3 m))

/-- The operations a line of the text form stands for (R63, R64). -/
def AsmLine.operations : AsmLine → List Instr
  | .nop => [.nop]
  | .rst => [.rst]
  | .ftick => [.ftick]
  | .stick => [.stick]
  | .tick => [.tick]
  | .btn lv => [.btn (BitVec.ofNat 3 lv)]
  | .adc val => [.adc (BitVec.ofNat 10 val)]
  | .cmd ch => [.cmd (BitVec.ofNat 8 ch)]
  | .line n dg => [.line (BitVec.ofNat 3 n) (BitVec.ofNat 16 dg)]
  | .fticks c => List.replicate c .ftick
  | .sticks c => List.replicate c .stick
  | .ticks c => List.replicate c .tick
  | .press m => [pressOp m]
  | .release => [.btn 0b111]
  | .hold m c => pressOp m :: List.replicate c .stick ++ [.btn 0b111, .stick]
  | .enter text => [.line (lineOperands text).1 (lineOperands text).2]
  | .key c => [.cmd (BitVec.ofNat 8 c.toNat)]

/-- Assembling a line: "An operand outside its range is an assembly error" (R63). -/
def assemble (l : AsmLine) : Option (List Instr) := if l.wellFormed then some (AsmLine.operations l) else none

/-- The value of a digit character in a base of at most 16. -/
def digitIn? (base : Nat) (c : Char) : Option Nat :=
  let v := if c.isDigit then c.toNat - '0'.toNat
    else if 'a' ≤ c ∧ c ≤ 'f' then c.toNat - 'a'.toNat + 10
    else if 'A' ≤ c ∧ c ≤ 'F' then c.toNat - 'A'.toNat + 10
    else 16
  if v < base then some v else none

/-- The number that digit characters write in a base. -/
def numberIn? (base : Nat) (cs : List Char) : Option Nat :=
  if cs.isEmpty then none
  else cs.foldl (fun acc c => acc.bind fun a => (digitIn? base c).map fun d => base * a + d) (some 0)

/-- A number of the text form: decimal, `0x` hexadecimal, `0b` binary, or a character in single quotes (R63). The spec does
not say which operands may be a quoted character, nor what a character above 127, which has no ASCII code, stands for: here one
may be written for every number, it stands for its Unicode code, and the operand's range alone decides whether that number is
accepted (DESIGN CHOICE, log 10). -/
def parseNumber : List Char → Option Nat
  | '0' :: 'x' :: cs => numberIn? 16 cs
  | '0' :: 'b' :: cs => numberIn? 2 cs
  | ['\'', c, '\''] => some c.toNat
  | cs => numberIn? 10 cs

/-- The quotation mark around the text of `enter`. -/
def doubleQuote : Char := Char.ofNat 34

/-- The quotes open after one more character: a quote opens when none is open and closes when it is the open one. -/
def quoteAfter (q : Option Char) (c : Char) : Option Char :=
  match q with
  | none => if c = '\'' ∨ c = doubleQuote then some c else none
  | some o => if c = o then none else some o

/-- A line without its comment: `;` outside quotes starts one (R63). -/
def dropComment : Option Char → List Char → List Char
  | _, [] => []
  | q, c :: cs => if q = none ∧ c = ';' then [] else c :: dropComment (quoteAfter q c) cs

/-- Operands, separated by commas outside quotes (R63). -/
def splitOperands : Option Char → List Char → List (List Char)
  | _, [] => [[]]
  | q, c :: cs =>
    if q = none ∧ c = ',' then [] :: splitOperands none cs
    else
      match splitOperands (quoteAfter q c) cs with
      | [] => [[c]]
      | o :: os => (c :: o) :: os

/-- A character sequence without the blanks around it. -/
def trimBlanks (cs : List Char) : List Char :=
  ((cs.dropWhile Char.isWhitespace).reverse.dropWhile Char.isWhitespace).reverse

/-- The text between double quotes. -/
def quotedText? (cs : List Char) : Option (List Char) :=
  match cs with
  | [] => none
  | c :: rest =>
    match rest.getLast? with
    | some e => if c = doubleQuote ∧ e = doubleQuote then some rest.dropLast else none
    | none => none

/-- A character in single quotes. -/
def quotedChar? : List Char → Option Char
  | ['\'', c, '\''] => some c
  | _ => none

/-- The line that a mnemonic and its operands write (R63, R64). -/
def lineOf (mnemonic : List Char) (operands : List (List Char)) : Option AsmLine :=
  match String.ofList mnemonic, operands with
  | "nop", [] => some .nop
  | "rst", [] => some .rst
  | "ftick", [] => some .ftick
  | "stick", [] => some .stick
  | "tick", [] => some .tick
  | "btn", [a] => (parseNumber a).map .btn
  | "adc", [a] => (parseNumber a).map .adc
  | "cmd", [a] => (parseNumber a).map .cmd
  | "line", [a, b] => (parseNumber a).bind fun n => (parseNumber b).map fun dg => .line n dg
  | "fticks", [a] => (parseNumber a).map .fticks
  | "sticks", [a] => (parseNumber a).map .sticks
  | "ticks", [a] => (parseNumber a).map .ticks
  | "press", [a] => (parseNumber a).map .press
  | "release", [] => some .release
  | "hold", [a, b] => (parseNumber a).bind fun m => (parseNumber b).map fun c => .hold m c
  | "enter", [a] => (quotedText? a).map .enter
  | "key", [a] => (quotedChar? a).map .key
  | _, _ => none

/-- The operations one line of text stands for: no operation for a blank line, and the assembly error `none` for a line that
is not of the text form or whose operand is out of range (R63; log 10). -/
def assembleText (text : List Char) : Option (List Instr) :=
  let body := trimBlanks (dropComment none text)
  let mnemonic := body.takeWhile (fun c => !c.isWhitespace)
  let rest := trimBlanks (body.dropWhile (fun c => !c.isWhitespace))
  if body.isEmpty then some []
  else (lineOf mnemonic (if rest.isEmpty then [] else (splitOperands none rest).map trimBlanks)).bind assemble

end Sys2Proof.Machine
end

