-- ==== Sys2Proof/Machine/Ports.lean ====
section
/-! DEFINITION. The block's ports: the outputs an observer sees (10_state.md R35), the inputs of one clock (R36) and the order in
which the events of one clock are performed (60_exceptions.md R160). -/

namespace Sys2Proof.Machine

/-- The output ports, each "driven directly from the named field" (R35). -/
structure OutPorts where
  pwmOut : Bool
  statA : Bool
  statB : Bool
  state : BitVec 2
  minutes : BitVec 7
  seconds : BitVec 6
  paused : Bool
  extendedInfo : Bool
  blinkIndicator : Bool
  adcSample : BitVec 10
  dutyTicks : BitVec 3
  target : BitVec 3
  deriving DecidableEq, Repr

/-- What the ports show of a state (R35). No other field is observable. -/
def State.ports (s : State) : OutPorts :=
  { pwmOut := s.blk.gen.pwmOut
    statA := s.blk.ctl.statA
    statB := s.blk.ctl.statB
    state := s.blk.ctl.state.code
    minutes := BitVec.ofNat 7 s.blk.ctl.minutes.val
    seconds := BitVec.ofNat 6 s.blk.ctl.seconds.val
    paused := s.blk.ctl.paused
    extendedInfo := s.blk.ctl.extendedInfo
    blinkIndicator := s.blk.ctl.blinkIndicator
    adcSample := BitVec.ofNat 10 s.blk.ctl.adcSample.val
    dutyTicks := BitVec.ofNat 3 s.blk.ctl.dutyTicks.val
    target := BitVec.ofNat 3 s.blk.gen.target.val }

/-- Where the slow tick comes from: derived inside the block, or supplied by the system (R36, R158). -/
inductive SlowSource where
  | derived | supplied
  deriving DecidableEq, Repr

/-- The input ports at one clock (R36). A console character or line is present where its `valid` port is 1. -/
structure InPorts where
  rst : Bool
  ftickEn : Bool
  stickEn : Bool
  btnN : BitVec 3
  adc : BitVec 10
  cmd : Option Byte
  line : Option (BitVec 3 × BitVec 16)
  deriving DecidableEq, Repr

/-- The operation a pulse of the fast timer performs (R36). -/
def SlowSource.fastOp : SlowSource → Instr
  | .derived => .tick
  | .supplied => .ftick

/-- The operations of one clock in their fixed order: `RST` discards the others; then the pins, the fast tick, the slow tick,
the character, the line (R160). -/
def InPorts.operations (i : InPorts) (src : SlowSource) : List Instr :=
  if i.rst then [.rst]
  else [.btn i.btnN, .adc i.adc] ++ (if i.ftickEn then [src.fastOp] else []) ++ (if i.stickEn then [.stick] else []) ++
    (match i.cmd with | some ch => [.cmd ch] | none => []) ++
    (match i.line with | some (n, dg) => [.line n dg] | none => [])

/-- Performs operations one after another, each as a whole; the record at the end holds the event outputs of all of them,
over those the state came with (R160; log 9). -/
def performAll : List Instr → State → Host.Outcome State Fault Refusal
  | [], s => .next s
  | i :: is, s =>
    match exec i s with
    | .next t => performAll is (t.withBlock { t.blk with out := s.blk.out.merge t.blk.out })
    | .fault r => .fault r
    | .refused r => .refused r

/-- One clock of the block (R36, R160). -/
def State.clock (s : State) (src : SlowSource) (i : InPorts) : Host.Outcome State Fault Refusal :=
  performAll (i.operations src) (s.withBlock s.blk.quiet)

end Sys2Proof.Machine
end

