-- ==== Sys2Proof/Machine/Console.lean ====
section
/-! DEFINITION. The texts the event outputs stand for (43_fsm_controller.md R136, R137). Printing them is the surrounding
software's work (00_scope.md R4); what it prints is a function of the event and the output ports. -/

namespace Sys2Proof.Machine

/-- `dec(v)`: decimal without padding (R137). -/
def decText (v : Nat) : String := String.ofList (Nat.toDigits 10 v)

/-- `dec2(v)`: decimal, two digits, zero-padded (R137). -/
def dec2Text (v : Nat) : String := if v < 10 then "0" ++ decText v else decText v

/-- The indicator mode as the status line names it (R53, R137). -/
def OutPorts.modeText (o : OutPorts) : String := if o.blinkIndicator then "BLINK" else "SOLID"

/-- `statusLine(S)` (R137). -/
def OutPorts.statusLine (o : OutPorts) : String :=
  "Time remaining: " ++ dec2Text o.minutes.toNat ++ ":" ++ dec2Text o.seconds.toNat ++
    (if o.extendedInfo then
      " | ADC = " ++ decText o.adcSample.toNat ++ " | LED2 dutyTicks = " ++ decText o.dutyTicks.toNat ++
        " | LED2 mode = " ++ o.modeText
    else "")

/-- The `TimeEntry` prompt (R136). -/
def promptText : String := "Please enter time as MMSS (e.g., 0130 for 1min 30s), then press ENTER:"

/-- The text an event stands for, given the ports after the operation (R136). Three of them have no wording in the spec
(log 8). -/
def Event.text (o : OutPorts) : Event → String
  | .waiting => Config.waitingBannerText
  | .prompt => promptText
  | .banner => Config.helpBannerText
  | .status => o.statusLine
  | .done => Config.completionText

/-- The events of an output record, a first-entry event before a status line (R187). -/
def Out.events (o : Out) : List Event :=
  (if o.evWaiting then [.waiting] else []) ++ (if o.evPrompt then [.prompt] else []) ++
    (if o.evBanner then [.banner] else []) ++ (if o.evDone then [.done] else []) ++
    (if o.evStatus then [.status] else [])

/-- The texts that the operation performed last asks for, in order (R37, R136). -/
def State.texts (s : State) : List String := s.blk.out.events.map (fun e => e.text s.ports)

end Sys2Proof.Machine
end

