-- ==== Sys2Proof/Safety.lean ====
section
/-! DEFINITION. What a good state is: the relations between fields that 10_state.md R32 promises of every reachable state, with
the companions that make them hold after every operation from every state that has them. The ranges of R32 (a), (b), (c) and
(i), and "0 .. HOLD_MAX" of (d), are in the types. -/

namespace Sys2Proof.Safety

open Sys2Proof.Machine

variable {p : Params}

/-- R32 (d): `active == (ticks > 0)`. -/
abbrev HoldConsistent (hc : HoldCounter p) : Prop := hc.active = decide (0 < hc.ticks.val)

/-- R32 (d), for every hold counter. -/
abbrev HoldsConsistent (c : Control p) : Prop :=
  HoldConsistent c.hold.pri ∧ HoldConsistent c.hold.pau ∧ HoldConsistent c.hold.cmb

/-- R32 (e): a hold counter that its state and phase do not monitor is `{0, 0}`. -/
abbrev HoldsMonitored (c : Control p) : Prop :=
  (c.hold.pri = HoldCounter.zero p ∨ c.state = .waiting) ∧
  (c.hold.pau = HoldCounter.zero p ∨ c.state = .countdown) ∧
  (c.hold.cmb = HoldCounter.zero p ∨ (c.state = .timeEntry ∧ c.tePhase = .armed))

/-- A duration is armed only in `TimeEntry`, after its prompt (R14, R104). -/
abbrev ArmedInTimeEntry (c : Control p) : Prop :=
  c.tePhase = .prompt ∨ (c.state = .timeEntry ∧ c.entered = true)

/-- R32 (g): a character is pending only in `Countdown`. -/
abbrev CharacterInCountdown (c : Control p) : Prop := c.cmdAvail = false ∨ c.state = .countdown

/-- R32 (h): once `Done` is entered the status pair differs and the indicator mode is SOLID. -/
abbrev DonePair (c : Control p) : Prop :=
  (c.state = .done ∧ c.entered = true) → (c.statA ≠ c.statB ∧ c.blinkIndicator = false)

/-- R28: both status outputs are 0 in `Waiting` and `TimeEntry`. -/
abbrev StatusDark (c : Control p) : Prop :=
  (c.state = .waiting ∨ c.state = .timeEntry) → (c.statA = false ∧ c.statB = false)

/-- R120: outside `Countdown` and `Done`, and before `Countdown` is entered, both display modes are 0. -/
abbrev ModesFresh (c : Control p) : Prop :=
  (c.state = .waiting ∨ c.state = .timeEntry ∨ (c.state = .countdown ∧ c.entered = false)) →
    (c.extendedInfo = false ∧ c.blinkIndicator = false)

/-- The relations together. -/
abbrev ControlGood (c : Control p) : Prop :=
  HoldsConsistent c ∧ HoldsMonitored c ∧ ArmedInTimeEntry c ∧ CharacterInCountdown c ∧ DonePair c ∧ StatusDark c ∧
    ModesFresh c

/-- A good state of the machine. The stream may hold anything. -/
abbrev Good (s : State) : Prop := ControlGood s.blk.ctl

/-- Every field of the record `S` has its reset value of R33. The pins and the output record are not fields of `S`. -/
abbrev AtReset (b : Block Config.params) : Prop :=
  b.ctl.state = .waiting ∧ b.ctl.entered = false ∧ b.ctl.tePhase = .prompt ∧ b.gen.counter.val = 0 ∧
  b.gen.target.val = 0 ∧ b.gen.step = .up ∧ b.gen.pwmOut = false ∧ b.gen.rampCount.val = 0 ∧
  b.ctl.hold.pri = ⟨false, 0⟩ ∧ b.ctl.hold.pau = ⟨false, 0⟩ ∧ b.ctl.hold.cmb = ⟨false, 0⟩ ∧
  b.ctl.minutes.val = 0 ∧ b.ctl.seconds.val = 0 ∧ b.ctl.paused = false ∧ b.ctl.tickAcc.val = 0 ∧
  b.ctl.doneCount.val = 0 ∧ b.ctl.extendedInfo = false ∧ b.ctl.blinkIndicator = false ∧ b.ctl.blinkPhase = false ∧
  b.ctl.cmdAvail = false ∧ b.ctl.cmdChar = 0 ∧ b.ctl.adcSample.val = 0 ∧ b.ctl.dutyTicks.val = 0 ∧ b.ctl.statA = false ∧
  b.ctl.statB = false ∧ b.slowDiv.val = 0

/-- Performs operations one after another, as a stream of them would (R50). -/
def perform : List Instr → State → Host.Outcome State Fault Refusal
  | [], s => .next s
  | i :: is, s =>
    match exec i s with
    | .next t => perform is t
    | .fault r => .fault r
    | .refused r => .refused r

/-- The states after each of the operations, as far as they can be performed. -/
def trace : List Instr → State → List State
  | [], _ => []
  | i :: is, s =>
    match exec i s with
    | .next t => t :: trace is t
    | .fault _ => []
    | .refused _ => []

/-- How many of the states drive the indicator active. -/
def activeTicks (ss : List State) : Nat := (ss.map (fun t => t.blk.gen.pwmOut)).count true

/-- The abort/pause button (PB3) reads released, level 1 (R8, R24). -/
abbrev PauseReleased (s : State) : Prop := s.blk.pinBtn.getLsbD 2 = true

/-- Both combo buttons (PB2, PB3) read pressed, level 0 (R8, R73). -/
abbrev ComboPressed (s : State) : Prop := s.blk.pinBtn.getLsbD 1 = false ∧ s.blk.pinBtn.getLsbD 2 = false

/-- A slow tick of `Countdown` samples the release of a long press: it aborts (R121). -/
abbrev Aborts (s : State) : Prop := PauseReleased s ∧ 50 ≤ s.blk.ctl.hold.pau.ticks.val

/-- A slow tick of `Countdown` samples the release of a qualifying short click (R74, R121). -/
abbrev ClicksPause (s : State) : Prop :=
  PauseReleased s ∧ 3 ≤ s.blk.ctl.hold.pau.ticks.val ∧ s.blk.ctl.hold.pau.ticks.val < 50

/-- The pause flag after step (1) of that tick (R121). -/
abbrev pausedAfter (s : State) : Bool := if ClicksPause s then !s.blk.ctl.paused else s.blk.ctl.paused

/-- The tick is an unpaused second boundary (R123). -/
abbrev CountsSecond (s : State) : Prop := s.blk.ctl.tickAcc.val = 49 ∧ pausedAfter s = false

/-- The tick completes the countdown: the decrement reaches `(0, 0)` or starts from it (R101, R123). -/
abbrev Completes (s : State) : Prop :=
  CountsSecond s ∧ s.blk.ctl.minutes.val = 0 ∧ s.blk.ctl.seconds.val ≤ 1

end Sys2Proof.Safety
end

