-- ==== Sys2Proof/Certificates/Slice0/Obligations.lean ====
section
/-! DEFINITION. The statements for the provers. Numbers are the defaults of 00_scope.md R5, at which the machine runs; a
statement that takes a record `p` holds for every parameter record. The output record of an operation (R37) is read from
`blk.out` of the state it leads to (log 4). -/

open Sys2Proof Sys2Proof.Machine Sys2Proof.Safety

/-! ### Encoding -/

/-- R51, R52: decoding the word of an operation gives the operation, for every operand value. -/
def Obligations.DecodeInvertsEncode : Prop := ∀ i : Instr, decodeWord (encode i) = .ok i

/-- R51, R52, R59: a word that decodes is the word of the operation it decodes to; no bit of it is ignored. -/
def Obligations.EncodeInvertsDecode : Prop := ∀ (w : Word) (i : Instr), decodeWord w = .ok i → encode i = w

/-- R59, R60: a word is rejected as an unassigned opcode exactly where its opcode byte is none of R52's nine, and for a
reserved bit exactly where the opcode is assigned and the word is no operation's. -/
def Obligations.RejectionNamesItsReason : Prop :=
  ∀ w : Word,
    ((∃ op, decodeWord w = .error (.unassignedOpcode op)) ↔
      ((0x05 ≤ w.toNat / 2 ^ 24 ∧ w.toNat / 2 ^ 24 ≤ 0x0F) ∨ 0x14 ≤ w.toNat / 2 ^ 24)) ∧
    ((∃ op, decodeWord w = .error (.reservedBits op)) ↔
      (w.toNat / 2 ^ 24 ≤ 0x04 ∧ w.toNat % 2 ^ 24 ≠ 0) ∨
      (w.toNat / 2 ^ 24 = 0x10 ∧ 2 ^ 3 ≤ w.toNat % 2 ^ 24) ∨
      (w.toNat / 2 ^ 24 = 0x11 ∧ 2 ^ 10 ≤ w.toNat % 2 ^ 24) ∨
      (w.toNat / 2 ^ 24 = 0x12 ∧ 2 ^ 8 ≤ w.toNat % 2 ^ 24) ∨
      (w.toNat / 2 ^ 24 = 0x13 ∧ 2 ^ 19 ≤ w.toNat % 2 ^ 24))

/-- R61, an inference of the spec from R52: no two rows of the opcode map match the same word. -/
def Obligations.NoWordMatchesTwoRows : Prop :=
  ∀ (w : Word) (r r' : Row), r ∈ opcodeTable → r' ∈ opcodeTable → r.matches w = true → r'.matches w = true → r = r'

/-- 95_test_vectors.md 2.1: one word of each operation, written out from the formats of R51. -/
def Obligations.SampleWordsDecode : Prop :=
  decodeWord 0x00000000 = .ok .nop ∧ decodeWord 0x01000000 = .ok .rst ∧ decodeWord 0x02000000 = .ok .ftick ∧
  decodeWord 0x03000000 = .ok .stick ∧ decodeWord 0x04000000 = .ok .tick ∧ decodeWord 0x10000005 = .ok (.btn 0b101) ∧
  decodeWord 0x110003FF = .ok (.adc 1023) ∧ decodeWord 0x12000069 = .ok (.cmd 0x69) ∧
  decodeWord 0x13040130 = .ok (.line 4 0x0130)

/-- R47 (c), R61: the byte form of any list of operations decodes to that list, and a stream that decodes is the byte
form of what it decodes to. -/
def Obligations.StreamDecodingInvertsStreamEncoding : Prop :=
  ∀ (k : Nat) (bytes : List Byte) (ops : List Instr), decodeStream k bytes = .ok ops ↔ bytes = streamBytes ops

/-- R57, R47 (a): four digit characters, whatever other text stands between them and whatever follows the fourth, give
the count 4 and the digits with the first in the top nibble. -/
def Obligations.EnteredDigitsArePositional : Prop :=
  ∀ (a b c d : Fin 10) (x1 x2 x3 x4 rest : List Char),
    (∀ ch ∈ x1 ++ x2 ++ x3 ++ x4, ch.isDigit = false) →
    (lineOperands (x1 ++ Nat.digitChar a :: x2 ++ Nat.digitChar b :: x3 ++ Nat.digitChar c :: x4 ++ Nat.digitChar d :: rest)).1
      = 4 ∧
    ∀ dg, dg = (lineOperands
        (x1 ++ Nat.digitChar a :: x2 ++ Nat.digitChar b :: x3 ++ Nat.digitChar c :: x4 ++ Nat.digitChar d :: rest)).2 →
      (nibble dg 3).toNat = a ∧ (nibble dg 2).toNat = b ∧ (nibble dg 1).toNat = c ∧ (nibble dg 0).toNat = d

/-! ### The stream and the step -/

/-- R50: where the stream's next word is the word of an operation, the step performs that operation on the state with
the word taken. -/
def Obligations.StepPerformsTheNextWord : Prop :=
  ∀ (s : State) (i : Instr) (rest : List Byte), s.stream = wordBytes (encode i) ++ rest →
    step s = exec i { s with stream := rest, wordIndex := s.wordIndex + 1 }

/-- R48, R59 to R61, R50: where the next word of the stream is invalid, or incomplete, the step refuses it with its index and
performs nothing (log 2, DEDUCED: a bad word that the step itself meets; log 14: the index counts from 0); where no word is
left it stops (log 1: the outcome there is the model's choice); and it refuses nowhere else: no word of an operation is next. -/
def Obligations.StepStopsOnlyWhereNoOperationIs : Prop :=
  ∀ s : State,
    (∀ (w : Word) (e : DecodeError) (rest : List Byte), s.stream = wordBytes w ++ rest → decodeWord w = .error e →
      step s = .refused (.invalidWord s.wordIndex e)) ∧
    (0 < s.stream.length → s.stream.length < 4 → step s = .refused (.partialWord s.wordIndex)) ∧
    (s.stream = [] → step s = .refused .streamEnd) ∧
    (∀ r, step s = .refused r → ∀ (i : Instr) (rest : List Byte), s.stream ≠ wordBytes (encode i) ++ rest)

/-- R61 (log 2, DEDUCED): loading accepts exactly the byte forms of operation lists, and refuses every other stream before
any of it is performed. -/
def Obligations.LoadAcceptsExactlyValidStreams : Prop :=
  ∀ (s : State) (bytes : List Byte),
    ((∃ ops, bytes = streamBytes ops) → s.load bytes = .next { s with stream := bytes, wordIndex := 0 }) ∧
    ((∃ t, s.load bytes = .next t) → ∃ ops, bytes = streamBytes ops)

/-- R50, R155, and R188 (an inference of the spec): any finite sequence of operations is a legal program. The machine
performs all of its words in order, without a fault or a refusal, and then the stream is at its end. -/
def Obligations.EveryProgramRunsToItsEnd : Prop :=
  ∀ (ops : List Instr) (s : State), s.stream = streamBytes ops →
    ∃ t : State, core.run ops.length s = .next t ∧ t.stream = [] ∧ t.wordIndex = s.wordIndex + ops.length ∧
      perform ops s = .next { t with stream := s.stream, wordIndex := s.wordIndex }

/-- R155: every operation is total. It is performed whatever the state, and touches no word of the stream. -/
def Obligations.EveryOperationCompletes : Prop :=
  ∀ (i : Instr) (s : State), ∃ t : State, exec i s = .next t ∧ t = { s with blk := t.blk }

/-! ### Reset -/

/-- R33, R141: `RST` from any state gives every field of `S` its reset value, keeps the pins, and emits nothing. -/
def Obligations.RstGivesEveryFieldItsResetValue : Prop :=
  ∀ s : State, ∃ t : State, exec .rst s = .next t ∧ AtReset t.blk ∧ t.blk.pinBtn = s.blk.pinBtn ∧
    t.blk.pinAdc = s.blk.pinAdc ∧ t.blk.out = Out.none ∧ t = { s with blk := t.blk }

/-- R33, R175 (power-on performs `RST` once; log 5): the state after reset has every field of `S` at its reset value. It
says nothing of the pins, whose launch values are the model's choice (log 3). -/
def Obligations.MachineStartsAtReset : Prop := AtReset State.reset.blk

/-! ### Host and environment operations -/

/-- R140: `NOP` changes nothing and emits nothing. It may be put into or taken out of a sequence of operations anywhere:
every later operation finds and leaves the same state. Where nothing follows it, only the output record of the last
operation can differ. -/
def Obligations.NopChangesNothing : Prop :=
  (∀ s : State, exec .nop s = .next { s with blk.out := Out.none }) ∧
  ∀ (xs ys : List Instr) (s : State),
    (ys ≠ [] → perform (xs ++ .nop :: ys) s = perform (xs ++ ys) s) ∧
    (∀ t, perform xs s = .next t → perform (xs ++ [.nop]) s = .next { t with blk.out := Out.none })

/-- R143, R55: `BTN` copies the three raw levels to the pins and writes nothing else. -/
def Obligations.BtnWritesTheLevels : Prop :=
  ∀ (lv : BitVec 3) (s : State), exec (.btn lv) s = .next { s with blk.pinBtn := lv, blk.out := Out.none }

/-- R144, R56: `ADC` copies the analog value to its pin and writes nothing else. -/
def Obligations.AdcWritesTheValue : Prop :=
  ∀ (val : BitVec 10) (s : State), ∃ t : State, exec (.adc val) s = .next t ∧ t.blk.pinAdc.val = val.toNat ∧
    t = { s with blk.pinAdc := t.blk.pinAdc, blk.out := Out.none }

/-- R145: `CMD` latches the character in `Countdown`, over an undrained one, and drops it in every other state. A
character that arrives in `Countdown` before the first-entry tick is cleared by that tick and never inspected. -/
def Obligations.CmdLatchesInCountdownOnly : Prop :=
  ∀ (ch : Byte) (s : State),
    (s.blk.ctl.state = .countdown →
      exec (.cmd ch) s = .next { s with blk.ctl.cmdChar := ch, blk.ctl.cmdAvail := true, blk.out := Out.none }) ∧
    (s.blk.ctl.state ≠ .countdown → exec (.cmd ch) s = .next { s with blk.out := Out.none }) ∧
    (s.blk.ctl.state = .countdown → s.blk.ctl.entered = false →
      ∃ t u, perform [.cmd ch, .stick] s = .next t ∧ exec .stick s = .next u ∧
        t = { u with blk.ctl.cmdChar := ch } ∧ t.blk.ctl.cmdAvail = false)

/-- R142: `TICK` is `FTICK` and, on every 20th, `STICK` on the state that the fast tick left, with the divider cleared;
else it counts. Its event outputs are those of the `STICK` part. `FTICK` and `STICK` by themselves keep the divider. -/
def Obligations.TickIsFtickThenStick : Prop :=
  ∀ s : State, ∃ u v : State, exec .ftick s = .next u ∧ u.blk.slowDiv = s.blk.slowDiv ∧
    exec .stick s = .next v ∧ v.blk.slowDiv = s.blk.slowDiv ∧
    (s.blk.slowDiv.val = 19 →
      ∃ t, exec .stick { u with blk.slowDiv := ⟨0, by decide⟩ } = .next t ∧ exec .tick s = .next t ∧
        t.blk.slowDiv.val = 0) ∧
    (s.blk.slowDiv.val ≠ 19 →
      ∃ t, exec .tick s = .next t ∧ t.blk.slowDiv.val = s.blk.slowDiv.val + 1 ∧
        t = { u with blk.slowDiv := t.blk.slowDiv } ∧ t.blk.out = Out.none)

/-- R142, an inference of the spec from R88, R116 and R117: no `TICK` writes the duty target twice. In `Waiting`, where the fast
part may write it, the slow part leaves it; unless it is the ramp step of `Waiting`, the fast part leaves it. -/
def Obligations.TickWritesTargetAtMostOnce : Prop :=
  ∀ s u t : State, exec .ftick s = .next u → exec .tick s = .next t →
    (s.blk.ctl.state = .waiting → t.blk.gen.target = u.blk.gen.target) ∧
    (¬(s.blk.ctl.state = .waiting ∧ s.blk.gen.rampCount.val = 149) → u.blk.gen.target = s.blk.gen.target)

/-! ### The generator -/

/-- R85, R86: `FTICK` compares the old counter with the old target, then advances the counter. It writes the generator
domain and nothing else, and emits nothing. -/
def Obligations.FtickComparesThenAdvances : Prop :=
  ∀ s : State, ∃ t : State, exec .ftick s = .next t ∧
    t.blk.gen.pwmOut = decide (s.blk.gen.counter.val < s.blk.gen.target.val) ∧
    t.blk.gen.counter.val = (s.blk.gen.counter.val + 1) % 5 ∧
    t = { s with blk.gen := t.blk.gen, blk.out := Out.none }

/-- R88, R89: in `Waiting` every 150th `FTICK` moves the target one step, clamped to 0 .. 5, and sets the direction from
the bound it reached; the others count. Outside `Waiting` the ramp is inert and its interval restarts. -/
def Obligations.FtickRampsInWaitingOnly : Prop :=
  ∀ s : State, ∃ t : State, exec .ftick s = .next t ∧
    (s.blk.ctl.state = .waiting → s.blk.gen.rampCount.val = 149 →
      t.blk.gen.rampCount.val = 0 ∧
      (t.blk.gen.target.val : Int)
        = max 0 (min 5 (s.blk.gen.target.val + (if s.blk.gen.step = .up then (1 : Int) else -1))) ∧
      t.blk.gen.step = (if t.blk.gen.target.val = 5 then .down else if t.blk.gen.target.val = 0 then .up
        else s.blk.gen.step)) ∧
    (s.blk.ctl.state = .waiting → s.blk.gen.rampCount.val ≠ 149 →
      t.blk.gen.rampCount.val = s.blk.gen.rampCount.val + 1 ∧ t.blk.gen.target = s.blk.gen.target ∧
      t.blk.gen.step = s.blk.gen.step) ∧
    (s.blk.ctl.state ≠ .waiting →
      t.blk.gen.rampCount.val = 0 ∧ t.blk.gen.target = s.blk.gen.target ∧ t.blk.gen.step = s.blk.gen.step)

/-- R89, for every parameter record: a ramp step changes the direction only when it reaches a bound, and keeps the next
step inside the range. -/
def Obligations.RampReversesOnlyAtTheBounds : Prop :=
  ∀ (p : Params) (g : Generator p),
    (g.rampStep.step ≠ g.step → g.rampStep.target.val = 0 ∨ g.rampStep.target.val = p.period) ∧
    (0 : Int) ≤ g.rampStep.target.val + g.rampStep.step.toInt ∧
    g.rampStep.target.val + g.rampStep.step.toInt ≤ p.period

/-- R87, an inference of the spec from R86: while the target stays the same, any five `FTICK`s in a row drive the
indicator active on exactly that many of them; from the start of a period, on the first ones. -/
def Obligations.DutyOverOnePeriod : Prop :=
  ∀ s : State, (∀ u ∈ trace (List.replicate 4 .ftick) s, u.blk.gen.target = s.blk.gen.target) →
    (trace (List.replicate 5 .ftick) s).length = 5 ∧
    activeTicks (trace (List.replicate 5 .ftick) s) = s.blk.gen.target.val ∧
    (s.blk.gen.counter.val = 0 →
      (trace (List.replicate 5 .ftick) s).map (fun t => t.blk.gen.pwmOut)
        = (List.range 5).map (fun k => decide (k < s.blk.gen.target.val)))

/-- R183, an inference of the spec from R86: in the period in which the control loop writes a new target, the number of
active ticks lies between the two targets. -/
def Obligations.MidPeriodWriteStaysBetween : Prop :=
  ∀ (s u : State) (k : Nat) (t2 : Fin 6), s.blk.ctl.state ≠ .waiting → s.blk.gen.counter.val = 0 → k ≤ 5 →
    perform (List.replicate k .ftick) s = .next u →
    ∀ n, n = activeTicks (trace (List.replicate k .ftick) s) +
        activeTicks (trace (List.replicate (5 - k) .ftick) { u with blk.gen.target := t2 }) →
      min s.blk.gen.target.val t2.val ≤ n ∧ n ≤ max s.blk.gen.target.val t2.val

/-- R90, an inference of the spec from R88 and R89: from reset, after the k-th ramp step, that is after 150 k `FTICK`s,
the target is a triangle of period 10, and the direction is that of the slope to come. -/
def Obligations.BreathingIsATriangle : Prop :=
  ∀ (s : State) (k : Nat), ∃ t : State, perform (.rst :: List.replicate (150 * k) .ftick) s = .next t ∧
    t.blk.gen.target.val = (if k % 10 ≤ 5 then k % 10 else 10 - k % 10) ∧
    t.blk.gen.step = (if k % 10 < 5 then .up else .down) ∧ t.blk.gen.rampCount.val = 0 ∧ t.blk.gen.counter.val = 0 ∧
    t.blk.ctl.state = .waiting

/-! ### The detector -/

/-- R72: the classification of a hold, in the form of the document's property: the two gestures exclude each other and
cover every nonzero hold. -/
def Obligations.ClassificationOfAHold : Prop :=
  ∀ t threshold : Nat, 1 ≤ threshold →
    (classify t threshold = .idle ↔ t = 0) ∧
    (classify t threshold = .shortClick ↔ 0 < t ∧ t < threshold) ∧
    (classify t threshold = .longPress ↔ threshold ≤ t)

/-- R71, for every parameter record: an asserted sample counts, at most to `HOLD_MAX`, and gives no gesture; an
unasserted one clears the counter and classifies the count; c asserted samples of an idle counter count to c, at most
`HOLD_MAX`. -/
def Obligations.HoldCountsAndClassifiesOnRelease : Prop :=
  ∀ (p : Params) (threshold c : Nat) (hc : HoldCounter p),
    (holdStep hc true threshold).hc.active = true ∧
    (holdStep hc true threshold).hc.ticks.val = min (hc.ticks.val + 1) p.holdMax ∧
    (holdStep hc true threshold).ev = .idle ∧ (holdStep hc true threshold).n = 0 ∧
    (holdStep hc false threshold).hc = ⟨false, 0⟩ ∧
    (holdStep hc false threshold).ev = classify hc.ticks.val threshold ∧
    (holdStep hc false threshold).n = hc.ticks.val ∧
    ((List.replicate c true).foldl (fun h a => (holdStep h a threshold).hc) (⟨false, 0⟩ : HoldCounter p)).ticks.val
      = min c p.holdMax

/-! ### The countdown engine and `LINE` -/

/-- R101, for every parameter record: the decrement, its borrow, and its completion signal. -/
def Obligations.DecrementBorrows : Prop :=
  ∀ (p : Params) (d : Duration p),
    (d.seconds.val ≠ 0 →
      d.decrement.minutes = d.minutes ∧ d.decrement.seconds.val = d.seconds.val - 1) ∧
    (d.seconds.val = 0 → d.minutes.val ≠ 0 →
      d.decrement.minutes.val = d.minutes.val - 1 ∧ d.decrement.seconds.val = 59) ∧
    (d.seconds.val = 0 → d.minutes.val = 0 → d.decrement = d) ∧
    (d.decrement.complete = true ↔ d.minutes.val = 0 ∧ d.seconds.val ≤ 1) ∧
    (d.seconds.val ≤ 59 → d.decrement.seconds.val ≤ 59)

/-- R102, an inference of the spec from R101: a duration completes at its `max(1, 60 m + s)`-th decrement and at no
earlier one. -/
def Obligations.DurationCompletesOnTime : Prop :=
  ∀ (d : Duration Config.params) (k : Nat), 1 ≤ k → k ≤ max 1 (60 * d.minutes.val + d.seconds.val) →
    ((Duration.decrement^[k] d).complete = true ↔ k = max 1 (60 * d.minutes.val + d.seconds.val))

/-- R103: the duration that the digits of a time entry load. `d k` is the nibble `d<k>` of R57. -/
def Obligations.TimeEntryIsParsedByPosition : Prop :=
  ∀ (n : BitVec 3) (dg : BitVec 16) (d : Nat → Nat) (r : Duration Config.params),
    (∀ k, d k = dg.toNat / 16 ^ k % 16) → r = parseDuration Config.params n dg →
    (n = 4 → d 3 ≤ 9 → d 2 ≤ 9 → d 1 ≤ 9 → d 0 ≤ 9 →
      r.minutes.val = 10 * d 3 + d 2 ∧ r.seconds.val = min (10 * d 1 + d 0) 59) ∧
    (n = 3 → d 2 ≤ 9 → d 1 ≤ 9 → d 0 ≤ 9 → r.minutes.val = d 2 ∧ r.seconds.val = min (10 * d 1 + d 0) 59) ∧
    (n = 2 → d 1 ≤ 9 → d 0 ≤ 9 → r.minutes.val = 0 ∧ r.seconds.val = min (10 * d 1 + d 0) 59) ∧
    ((n = 4 ∧ (9 < d 3 ∨ 9 < d 2 ∨ 9 < d 1 ∨ 9 < d 0)) ∨ (n = 3 ∧ (9 < d 2 ∨ 9 < d 1 ∨ 9 < d 0)) ∨
        (n = 2 ∧ (9 < d 1 ∨ 9 < d 0)) ∨ (n ≠ 4 ∧ n ≠ 3 ∧ n ≠ 2) →
      r.minutes.val = 0 ∧ r.seconds.val = 10)

/-- R104: `LINE` loads the parsed duration after the prompt and before one is armed; else it is dropped. -/
def Obligations.LineIsAcceptedAfterThePrompt : Prop :=
  ∀ (n : BitVec 3) (dg : BitVec 16) (s : State),
    (s.blk.ctl.state = .timeEntry ∧ s.blk.ctl.tePhase = .prompt ∧ s.blk.ctl.entered = true →
      exec (.line n dg) s = .next { s with
        blk.ctl.minutes := (parseDuration Config.params n dg).minutes,
        blk.ctl.seconds := (parseDuration Config.params n dg).seconds,
        blk.ctl.tePhase := .armed, blk.ctl.hold.cmb := ⟨false, 0⟩, blk.out := Out.none }) ∧
    (¬(s.blk.ctl.state = .timeEntry ∧ s.blk.ctl.tePhase = .prompt ∧ s.blk.ctl.entered = true) →
      exec (.line n dg) s = .next { s with blk.out := Out.none })

/-! ### The slow tick -/

/-- R115, R116: the first slow tick of `Waiting` asks for the banner and sets `entered`; the tick body follows in it. -/
def Obligations.WaitingEntryAsksForTheBanner : Prop :=
  ∀ s : State, s.blk.ctl.state = .waiting → s.blk.ctl.entered = false →
    ∃ u, exec .stick { s with blk.ctl.entered := true } = .next u ∧ u.blk.out = Out.none ∧
      exec .stick s = .next { u with blk.out.evWaiting := true }

/-- R117: the tick body of `Waiting`. PB1 pressed counts; its release after 3 to 49 slow ticks leaves for `TimeEntry`;
its release after any other count is consumed without effect. -/
def Obligations.WaitingWatchesThePrimaryButton : Prop :=
  ∀ s : State, s.blk.ctl.state = .waiting → s.blk.ctl.entered = true →
    ∃ t : State, exec .stick s = .next t ∧ t = { s with blk.ctl := t.blk.ctl, blk.out := Out.none } ∧
    (s.blk.pinBtn.getLsbD 0 = false →
      t.blk.ctl.hold.pri.active = true ∧
      t.blk.ctl.hold.pri.ticks.val = min (s.blk.ctl.hold.pri.ticks.val + 1) 65535 ∧
      t.blk.ctl = { s.blk.ctl with hold.pri := t.blk.ctl.hold.pri }) ∧
    (s.blk.pinBtn.getLsbD 0 = true → 3 ≤ s.blk.ctl.hold.pri.ticks.val → s.blk.ctl.hold.pri.ticks.val < 50 →
      t.blk.ctl = { s.blk.ctl with
        state := .timeEntry, entered := false, tePhase := .prompt, hold := ⟨⟨false, 0⟩, ⟨false, 0⟩, ⟨false, 0⟩⟩ }) ∧
    (s.blk.pinBtn.getLsbD 0 = true → s.blk.ctl.hold.pri.ticks.val < 3 ∨ 50 ≤ s.blk.ctl.hold.pri.ticks.val →
      t.blk.ctl = { s.blk.ctl with hold.pri := ⟨false, 0⟩ })

/-- R117, R64, R71: pressing PB1 for c sampled slow ticks and releasing it leaves an idle `Waiting` exactly for the
counts 3 to 49; for every other count the block stays, with the counter clear. -/
def Obligations.ClickOfEveryLength : Prop :=
  ∀ (s : State) (c : Nat), s.blk.ctl.state = .waiting → s.blk.ctl.hold.pri = ⟨false, 0⟩ →
    ∃ t : State, perform (AsmLine.operations (.hold 0b001 c)) s = .next t ∧
      t.blk.ctl.state = (if 3 ≤ c ∧ c < 50 then .timeEntry else .waiting) ∧
      t.blk.ctl.entered = decide (¬(3 ≤ c ∧ c < 50)) ∧ t.blk.ctl.hold.pri = ⟨false, 0⟩

/-- R118: the first slow tick of `TimeEntry` asks for the prompt and darkens the indicators. -/
def Obligations.TimeEntryEntryPrompts : Prop :=
  ∀ s : State, s.blk.ctl.state = .timeEntry → s.blk.ctl.entered = false →
    exec .stick s = .next { s with
      blk.ctl.entered := true, blk.ctl.tePhase := .prompt, blk.gen.target := 0, blk.ctl.statA := false,
      blk.ctl.statB := false, blk.out := { Out.none with evPrompt := true } }

/-- R119: the tick body of `TimeEntry`. In `Prompt` nothing happens. In `Armed` both combo buttons pressed count; the
first sample that is not both pressed classifies the hold: none, a short one starts the countdown, a long one resets and
re-prompts. -/
def Obligations.TimeEntryWatchesTheCombo : Prop :=
  ∀ s : State, s.blk.ctl.state = .timeEntry → s.blk.ctl.entered = true →
    (s.blk.ctl.tePhase = .prompt → exec .stick s = .next { s with blk.out := Out.none }) ∧
    (s.blk.ctl.tePhase = .armed → ComboPressed s →
      ∃ t : State, exec .stick s = .next t ∧ t.blk.ctl.hold.cmb.active = true ∧
        t.blk.ctl.hold.cmb.ticks.val = min (s.blk.ctl.hold.cmb.ticks.val + 1) 65535 ∧
        t = { s with blk.ctl.hold.cmb := t.blk.ctl.hold.cmb, blk.out := Out.none }) ∧
    (s.blk.ctl.tePhase = .armed → ¬ComboPressed s → s.blk.ctl.hold.cmb.ticks.val = 0 →
      exec .stick s = .next { s with blk.ctl.hold.cmb := ⟨false, 0⟩, blk.out := Out.none }) ∧
    (s.blk.ctl.tePhase = .armed → ¬ComboPressed s → 0 < s.blk.ctl.hold.cmb.ticks.val →
      s.blk.ctl.hold.cmb.ticks.val < 50 →
      exec .stick s = .next { s with
        blk.ctl.state := .countdown, blk.ctl.entered := false, blk.ctl.tePhase := .prompt,
        blk.ctl.hold := ⟨⟨false, 0⟩, ⟨false, 0⟩, ⟨false, 0⟩⟩, blk.out := Out.none }) ∧
    (s.blk.ctl.tePhase = .armed → ¬ComboPressed s → 50 ≤ s.blk.ctl.hold.cmb.ticks.val →
      exec .stick s = .next { s with
        blk.ctl.minutes := 0, blk.ctl.seconds := 0, blk.ctl.tePhase := .prompt, blk.ctl.entered := false,
        blk.ctl.hold := ⟨⟨false, 0⟩, ⟨false, 0⟩, ⟨false, 0⟩⟩, blk.out := Out.none })

/-- R184, R119: an entered `TimeEntry` waits for ever. Whatever operations but `RST` are performed, in phase `Prompt` with no
line among them, or in phase `Armed` with no combo sampled or to be sampled, the control domain and the duty target stay as
they are. -/
def Obligations.TimeEntryWaitsForEver : Prop :=
  ∀ (ops : List Instr) (s : State), s.blk.ctl.state = .timeEntry → s.blk.ctl.entered = true → .rst ∉ ops →
    ((s.blk.ctl.tePhase = .prompt ∧ ∀ n dg, .line n dg ∉ ops) ∨
      (s.blk.ctl.tePhase = .armed ∧ s.blk.ctl.hold.cmb = ⟨false, 0⟩ ∧ ¬ComboPressed s ∧
        ∀ lv : BitVec 3, .btn lv ∈ ops → lv.getLsbD 1 = true ∨ lv.getLsbD 2 = true)) →
    ∃ t : State, perform ops s = .next t ∧ t.blk.ctl = s.blk.ctl ∧ t.blk.gen.target = s.blk.gen.target

/-- R120: the first slow tick of `Countdown` clears the session counters and asks for the help banner; the tick body
follows in it. -/
def Obligations.CountdownEntryClearsTheSession : Prop :=
  ∀ s : State, s.blk.ctl.state = .countdown → s.blk.ctl.entered = false →
    ∃ u, exec .stick { s with
        blk.ctl.paused := false, blk.ctl.blinkPhase := false, blk.ctl.tickAcc := ⟨0, by decide⟩, blk.ctl.statA := false,
        blk.ctl.statB := false, blk.ctl.cmdAvail := false, blk.ctl.entered := true } = .next u ∧
      u.blk.out = Out.none ∧ exec .stick s = .next { u with blk.out.evBanner := true }

/-- R121 step (1): the release of the abort/pause button after 50 slow ticks or more aborts: the rest of the tick is not
performed. That `tePhase` is kept is the model's reading (log 13, DEDUCED). -/
def Obligations.LongPressAborts : Prop :=
  ∀ s : State, s.blk.ctl.state = .countdown → s.blk.ctl.entered = true → Aborts s →
    exec .stick s = .next { s with
      blk.ctl.minutes := 0, blk.ctl.seconds := 0, blk.ctl.state := .done, blk.ctl.entered := false,
      blk.ctl.hold := ⟨⟨false, 0⟩, ⟨false, 0⟩, ⟨false, 0⟩⟩, blk.ctl.cmdAvail := false, blk.out := Out.none }

/-- R121 step (1), no abort: pressed counts; released it clears the counter, and toggles the pause flag for a count of 3
to 49. A completion at the same tick clears all hold counters. -/
def Obligations.CountdownServesThePauseButton : Prop :=
  ∀ s : State, s.blk.ctl.state = .countdown → s.blk.ctl.entered = true → ¬Aborts s →
    ∃ t : State, exec .stick s = .next t ∧ t.blk.ctl.paused = pausedAfter s ∧
      (Completes s → t.blk.ctl.hold = ⟨⟨false, 0⟩, ⟨false, 0⟩, ⟨false, 0⟩⟩) ∧
      (¬Completes s → t.blk.ctl.hold = { s.blk.ctl.hold with pau := t.blk.ctl.hold.pau }) ∧
      (¬Completes s → PauseReleased s → t.blk.ctl.hold.pau = ⟨false, 0⟩) ∧
      (¬Completes s → ¬PauseReleased s → t.blk.ctl.hold.pau.active = true ∧
        t.blk.ctl.hold.pau.ticks.val = min (s.blk.ctl.hold.pau.ticks.val + 1) 65535)

/-- R121 step (2), R54: a pending character is drained; `'i'` toggles the extended line, `'b'` the indicator mode, any
other character nothing. -/
def Obligations.CountdownDrainsOneCharacter : Prop :=
  ∀ s : State, s.blk.ctl.state = .countdown → s.blk.ctl.entered = true → ¬Aborts s →
    ∃ t : State, exec .stick s = .next t ∧ t.blk.ctl.cmdAvail = false ∧ t.blk.ctl.cmdChar = s.blk.ctl.cmdChar ∧
      t.blk.ctl.extendedInfo
        = (if s.blk.ctl.cmdAvail = true ∧ s.blk.ctl.cmdChar = 0x69 then !s.blk.ctl.extendedInfo
          else s.blk.ctl.extendedInfo) ∧
      t.blk.ctl.blinkIndicator
        = (if s.blk.ctl.cmdAvail = true ∧ s.blk.ctl.cmdChar = 0x62 then !s.blk.ctl.blinkIndicator
          else s.blk.ctl.blinkIndicator)

/-- R122, R128 (b), (c): the analog value is latched, and the target is its duty, or 0 in BLINK mode, as step (2) left
it, while the blink phase before step (4) is 0. Paused or not. -/
def Obligations.CountdownProgramsTheTarget : Prop :=
  ∀ s : State, s.blk.ctl.state = .countdown → s.blk.ctl.entered = true → ¬Aborts s →
    ∃ t : State, exec .stick s = .next t ∧ t.blk.ctl.adcSample = s.blk.pinAdc ∧
      t.blk.ctl.dutyTicks.val = s.blk.pinAdc.val * 5 / 1023 ∧
      t.blk.gen.target.val
        = (if t.blk.ctl.blinkIndicator = true ∧ s.blk.ctl.blinkPhase = false then 0
          else s.blk.pinAdc.val * 5 / 1023)

/-- R123, R101, R128 (a): the accumulator counts to 50 slow ticks, paused or not. At a boundary that the pause flag, as
step (1) left it, does not suppress, the duration is decremented with borrow, the status output and the blink phase
flip, a status line is asked for, and a completed countdown leaves for `Done`. -/
def Obligations.CountdownCountsTheSecond : Prop :=
  ∀ s : State, s.blk.ctl.state = .countdown → s.blk.ctl.entered = true → ¬Aborts s →
    ∃ t : State, exec .stick s = .next t ∧ t.blk.ctl.tickAcc.val = (s.blk.ctl.tickAcc.val + 1) % 50 ∧
      (¬CountsSecond s →
        t.blk.ctl.minutes = s.blk.ctl.minutes ∧ t.blk.ctl.seconds = s.blk.ctl.seconds ∧
        t.blk.ctl.statA = s.blk.ctl.statA ∧ t.blk.ctl.blinkPhase = s.blk.ctl.blinkPhase ∧
        t.blk.ctl.state = .countdown ∧ t.blk.ctl.entered = true ∧ t.blk.out = Out.none) ∧
      (CountsSecond s →
        60 * t.blk.ctl.minutes.val + t.blk.ctl.seconds.val
          = 60 * s.blk.ctl.minutes.val + s.blk.ctl.seconds.val - 1 ∧
        t.blk.ctl.minutes.val
          = (if s.blk.ctl.seconds.val = 0 then s.blk.ctl.minutes.val - 1 else s.blk.ctl.minutes.val) ∧
        t.blk.ctl.statA = !s.blk.ctl.statA ∧ t.blk.ctl.blinkPhase = !s.blk.ctl.blinkPhase ∧
        t.blk.out = { Out.none with evStatus := true } ∧
        t.blk.ctl.state = (if Completes s then .done else .countdown) ∧
        t.blk.ctl.entered = decide (¬Completes s) ∧
        (Completes s → t.blk.ctl.hold = ⟨⟨false, 0⟩, ⟨false, 0⟩, ⟨false, 0⟩⟩))

/-- R121 to R123: what a slow tick of an entered `Countdown` that does not abort leaves unchanged. That `tePhase` is kept on
the completing tick is the model's reading (log 13, DEDUCED). -/
def Obligations.CountdownTickFrame : Prop :=
  ∀ s : State, s.blk.ctl.state = .countdown → s.blk.ctl.entered = true → ¬Aborts s →
    ∃ t : State, exec .stick s = .next t ∧
      t = { s with blk.ctl := t.blk.ctl, blk.gen.target := t.blk.gen.target, blk.out := t.blk.out } ∧
      t.blk.ctl = { s.blk.ctl with
        state := t.blk.ctl.state, entered := t.blk.ctl.entered, hold := t.blk.ctl.hold, minutes := t.blk.ctl.minutes,
        seconds := t.blk.ctl.seconds, paused := t.blk.ctl.paused, tickAcc := t.blk.ctl.tickAcc,
        extendedInfo := t.blk.ctl.extendedInfo, blinkIndicator := t.blk.ctl.blinkIndicator,
        blinkPhase := t.blk.ctl.blinkPhase, cmdAvail := t.blk.ctl.cmdAvail, adcSample := t.blk.ctl.adcSample,
        dutyTicks := t.blk.ctl.dutyTicks, statA := t.blk.ctl.statA }

/-- R105, R122, R123: while a countdown is paused and nobody touches PB3, any number of slow ticks leaves the duration, the
status output and the blink phase frozen and asks for no status line, while the accumulator runs, the analog value is latched,
the target follows it with its gating, and a pending character is drained with its effect. Everything else stays. -/
def Obligations.PauseFreezesTheDuration : Prop :=
  ∀ (s : State) (k : Nat), s.blk.ctl.state = .countdown → s.blk.ctl.entered = true → s.blk.ctl.paused = true →
    PauseReleased s → s.blk.ctl.hold.pau = ⟨false, 0⟩ →
    ∃ t : State, perform (List.replicate (k + 1) .stick) s = .next t ∧
      t.blk.ctl.tickAcc.val = (s.blk.ctl.tickAcc.val + (k + 1)) % 50 ∧
      t.blk.ctl.dutyTicks.val = s.blk.pinAdc.val * 5 / 1023 ∧
      t.blk.gen.target.val
        = (if t.blk.ctl.blinkIndicator = true ∧ s.blk.ctl.blinkPhase = false then 0
          else s.blk.pinAdc.val * 5 / 1023) ∧
      t = { s with blk.ctl := t.blk.ctl, blk.gen.target := t.blk.gen.target, blk.out := Out.none } ∧
      t.blk.ctl = { s.blk.ctl with
        tickAcc := t.blk.ctl.tickAcc, adcSample := s.blk.pinAdc, dutyTicks := t.blk.ctl.dutyTicks, cmdAvail := false,
        extendedInfo :=
          if s.blk.ctl.cmdAvail = true ∧ s.blk.ctl.cmdChar = 0x69 then !s.blk.ctl.extendedInfo
          else s.blk.ctl.extendedInfo,
        blinkIndicator :=
          if s.blk.ctl.cmdAvail = true ∧ s.blk.ctl.cmdChar = 0x62 then !s.blk.ctl.blinkIndicator
          else s.blk.ctl.blinkIndicator }

/-- R102 (an inference of the spec) with R120, R123: a countdown of m minutes and s seconds that nobody pauses or aborts
leaves `Countdown` for `Done` at its slow tick number `50 * max(1, 60 m + s)`, counted from the first-entry tick, and at
no earlier one. -/
def Obligations.CountdownReachesDoneOnTime : Prop :=
  ∀ (s : State) (k : Nat), s.blk.ctl.state = .countdown → s.blk.ctl.entered = false → PauseReleased s →
    s.blk.ctl.hold.pau = ⟨false, 0⟩ →
    k ≤ 50 * max 1 (60 * s.blk.ctl.minutes.val + s.blk.ctl.seconds.val) →
    ∃ t : State, perform (List.replicate k .stick) s = .next t ∧
      60 * t.blk.ctl.minutes.val + t.blk.ctl.seconds.val
        = 60 * s.blk.ctl.minutes.val + s.blk.ctl.seconds.val - k / 50 ∧
      t.blk.ctl.state
        = (if k = 50 * max 1 (60 * s.blk.ctl.minutes.val + s.blk.ctl.seconds.val) then .done else .countdown)

/-- R124: the first slow tick of `Done` asks for the completion message, forces SOLID, and lights the first status
output; the tick body follows in it. -/
def Obligations.DoneEntryForcesSolid : Prop :=
  ∀ s : State, s.blk.ctl.state = .done → s.blk.ctl.entered = false →
    ∃ u, exec .stick { s with
        blk.ctl.blinkIndicator := false, blk.ctl.doneCount := ⟨0, by decide⟩, blk.ctl.statA := true,
        blk.ctl.statB := false, blk.ctl.entered := true } = .next u ∧
      u.blk.out = Out.none ∧ exec .stick s = .next { u with blk.out.evDone := true }

/-- R125, R122, R39: the tick body of `Done`. The target follows the analog value; the 250th tick resets the control
domain and keeps that target; the others count and swap the status pair on every 10th. -/
def Obligations.DoneTickCountsAndSwaps : Prop :=
  ∀ s : State, s.blk.ctl.state = .done → s.blk.ctl.entered = true →
    ∃ t : State, exec .stick s = .next t ∧
      t = { s with blk.ctl := t.blk.ctl, blk.gen.target := t.blk.gen.target, blk.out := Out.none } ∧
      t.blk.gen.target.val
        = (if s.blk.ctl.blinkIndicator = true ∧ s.blk.ctl.blinkPhase = false then 0
          else s.blk.pinAdc.val * 5 / 1023) ∧
      (s.blk.ctl.doneCount.val = 249 →
        AtReset { t.blk with gen := Generator.reset Config.params, slowDiv := ⟨0, by decide⟩ }) ∧
      (s.blk.ctl.doneCount.val ≠ 249 →
        t.blk.ctl.doneCount.val = s.blk.ctl.doneCount.val + 1 ∧ t.blk.ctl.adcSample = s.blk.pinAdc ∧
        t.blk.ctl.dutyTicks.val = s.blk.pinAdc.val * 5 / 1023 ∧
        t.blk.ctl.statA = (if (s.blk.ctl.doneCount.val + 1) % 10 = 0 then !s.blk.ctl.statA else s.blk.ctl.statA) ∧
        t.blk.ctl.statB = (if (s.blk.ctl.doneCount.val + 1) % 10 = 0 then !s.blk.ctl.statB else s.blk.ctl.statB) ∧
        t.blk.ctl = { s.blk.ctl with
          doneCount := t.blk.ctl.doneCount, adcSample := t.blk.ctl.adcSample, dutyTicks := t.blk.ctl.dutyTicks,
          statA := t.blk.ctl.statA, statB := t.blk.ctl.statB })

/-- R125: `Done` lasts exactly 250 slow ticks, the first-entry tick included. During it the status pair alternates,
`statA` first, swapping on ticks 10, 20, ..., 240; after it the block is in `Waiting`, not entered. -/
def Obligations.DoneLasts250SlowTicks : Prop :=
  ∀ (s : State) (k : Nat), s.blk.ctl.state = .done → s.blk.ctl.entered = false → 1 ≤ k → k ≤ 250 →
    ∃ t : State, perform (List.replicate k .stick) s = .next t ∧
      (k < 250 → t.blk.ctl.state = .done ∧ t.blk.ctl.entered = true ∧ t.blk.ctl.doneCount.val = k ∧
        t.blk.ctl.statA = decide (k / 10 % 2 = 0) ∧ t.blk.ctl.statB = !t.blk.ctl.statA) ∧
      (k = 250 → t.blk.ctl.state = .waiting ∧ t.blk.ctl.entered = false ∧ t.blk.ctl.statA = false ∧
        t.blk.ctl.statB = false ∧ t.blk.gen.target.val = s.blk.pinAdc.val * 5 / 1023)

/-! ### Whole-machine rules -/

/-- R126: all changes of `state`, each with its cause. Nothing else changes it. -/
def Obligations.OnlyTheListedTransitions : Prop :=
  ∀ (i : Instr) (s t : State), exec i s = .next t →
    t.blk.ctl.state = s.blk.ctl.state ∨
    (i = .rst ∧ t.blk.ctl.state = .waiting) ∨
    ((i = .stick ∨ (i = .tick ∧ s.blk.slowDiv.val = 19)) ∧
      ((s.blk.ctl.state = .waiting ∧ t.blk.ctl.state = .timeEntry ∧ s.blk.pinBtn.getLsbD 0 = true ∧
          3 ≤ s.blk.ctl.hold.pri.ticks.val ∧ s.blk.ctl.hold.pri.ticks.val < 50) ∨
        (s.blk.ctl.state = .timeEntry ∧ t.blk.ctl.state = .countdown ∧ s.blk.ctl.entered = true ∧
          s.blk.ctl.tePhase = .armed ∧ ¬ComboPressed s ∧ 0 < s.blk.ctl.hold.cmb.ticks.val ∧
          s.blk.ctl.hold.cmb.ticks.val < 50) ∨
        (s.blk.ctl.state = .countdown ∧ t.blk.ctl.state = .done ∧
          (Aborts s ∨ (s.blk.ctl.entered = true ∧ Completes s))) ∨
        (s.blk.ctl.state = .done ∧ t.blk.ctl.state = .waiting ∧ s.blk.ctl.entered = true ∧
          s.blk.ctl.doneCount.val = 249)))

/-- R31: who writes what, one clause for each row of the table. -/
def Obligations.EachFieldHasItsWriters : Prop :=
  ∀ (i : Instr) (s t : State), exec i s = .next t →
    (t.blk.gen.counter ≠ s.blk.gen.counter ∨ t.blk.gen.pwmOut ≠ s.blk.gen.pwmOut ∨
        t.blk.gen.rampCount ≠ s.blk.gen.rampCount ∨ t.blk.gen.step ≠ s.blk.gen.step →
      i = .ftick ∨ i = .tick ∨ i = .rst) ∧
    (t.blk.gen.target ≠ s.blk.gen.target →
      ((i = .ftick ∨ i = .tick) ∧ s.blk.ctl.state = .waiting) ∨
      ((i = .stick ∨ i = .tick) ∧ s.blk.ctl.state ≠ .waiting) ∨ i = .rst) ∧
    (t.blk.ctl ≠ { s.blk.ctl with
        tePhase := t.blk.ctl.tePhase, hold := t.blk.ctl.hold, minutes := t.blk.ctl.minutes,
        seconds := t.blk.ctl.seconds, cmdAvail := t.blk.ctl.cmdAvail, cmdChar := t.blk.ctl.cmdChar } →
      i = .stick ∨ i = .tick ∨ i = .rst) ∧
    (t.blk.ctl.tePhase ≠ s.blk.ctl.tePhase ∨ t.blk.ctl.hold ≠ s.blk.ctl.hold ∨
        t.blk.ctl.minutes ≠ s.blk.ctl.minutes ∨ t.blk.ctl.seconds ≠ s.blk.ctl.seconds →
      i = .stick ∨ i = .tick ∨ i = .rst ∨ ∃ n dg, i = .line n dg) ∧
    (t.blk.ctl.cmdAvail ≠ s.blk.ctl.cmdAvail ∨ t.blk.ctl.cmdChar ≠ s.blk.ctl.cmdChar →
      i = .stick ∨ i = .tick ∨ i = .rst ∨ ∃ ch, i = .cmd ch) ∧
    (t.blk.slowDiv ≠ s.blk.slowDiv → i = .tick ∨ i = .rst) ∧
    (t.blk.pinBtn ≠ s.blk.pinBtn → ∃ lv, i = .btn lv) ∧
    (t.blk.pinAdc ≠ s.blk.pinAdc → ∃ val, i = .adc val)

/-- R85, R92, R164, and R44 (c) (an inference of the spec): the domains share `state` and `target` alone. Two states
that agree but for the generator's `counter`, `pwmOut`, `rampCount` and `step` agree so after `STICK`, `CMD` or `LINE`;
two states that agree on the generator and on `state` agree on the generator after `FTICK`. -/
def Obligations.DomainsShareTwoFields : Prop :=
  (∀ (i : Instr) (s s' t t' : State), (i = .stick ∨ (∃ ch, i = .cmd ch) ∨ ∃ n dg, i = .line n dg) →
    s.blk.ctl = s'.blk.ctl → s.blk.gen.target = s'.blk.gen.target → s.blk.pinBtn = s'.blk.pinBtn →
    s.blk.pinAdc = s'.blk.pinAdc → exec i s = .next t → exec i s' = .next t' →
    t.blk.ctl = t'.blk.ctl ∧ t.blk.gen.target = t'.blk.gen.target ∧ t.blk.out = t'.blk.out ∧
      t.blk.gen = { s.blk.gen with target := t.blk.gen.target }) ∧
  (∀ s s' t t' : State, s.blk.gen = s'.blk.gen → s.blk.ctl.state = s'.blk.ctl.state → exec .ftick s = .next t →
    exec .ftick s' = .next t' → t.blk.gen = t'.blk.gen)

/-- R37, and R187 (an inference of the spec): only `STICK`, and `TICK` through it, emits, and at most one event an
operation. -/
def Obligations.AtMostOneEventAnOperation : Prop :=
  ∀ (i : Instr) (s t : State), exec i s = .next t →
    t.blk.out.events.length ≤ 1 ∧ (t.blk.out ≠ Out.none → i = .stick ∨ (i = .tick ∧ s.blk.slowDiv.val = 19))

/-- R32 (d), (e), (g), (h), inferences of the spec, with their companions of R14, R28 and R120: a step keeps, from every
state and not only from reached ones, that each hold counter is active exactly where its count is not 0; that a counter
which the state and phase do not monitor is clear; that a duration is armed only in a prompted `TimeEntry`; that a
character is pending only in `Countdown`; that in an entered `Done` the status pair differs and the mode is SOLID; that
both status outputs are 0 in `Waiting` and `TimeEntry`; and that both display modes are 0 there and before `Countdown`
is entered. -/
def Obligations.EveryStepKeepsTheStateGood : Prop := ∀ s t : State, Good s → step s = .next t → Good t

/-- R32, R33: the state after reset has the relations that `EveryStepKeepsTheStateGood` names. -/
def Obligations.ResetIsGood : Prop := Good State.reset

/-! ### Ports -/

/-- R35: no port loses a bit of the field it shows. -/
def Obligations.PortsShowTheirFields : Prop :=
  ∀ s : State, s.ports.minutes.toNat = s.blk.ctl.minutes.val ∧ s.ports.seconds.toNat = s.blk.ctl.seconds.val ∧
    s.ports.dutyTicks.toNat = s.blk.ctl.dutyTicks.val ∧ s.ports.target.toNat = s.blk.gen.target.val ∧
    s.ports.state.toNat = (match s.blk.ctl.state with | .waiting => 0 | .timeEntry => 1 | .countdown => 2 | .done => 3) ∧
    s.ports.pwmOut = s.blk.gen.pwmOut ∧ s.ports.statA = s.blk.ctl.statA ∧ s.ports.statB = s.blk.ctl.statB ∧
    s.ports.paused = s.blk.ctl.paused ∧ s.ports.extendedInfo = s.blk.ctl.extendedInfo ∧
    s.ports.blinkIndicator = s.blk.ctl.blinkIndicator ∧ s.ports.adcSample.toNat = s.blk.ctl.adcSample.val

/-- R160: the events of one clock are performed in the order pins, fast tick, slow tick, character, line; a reset
discards the others. Every clock completes (log 9). -/
def Obligations.ClockPerformsEventsInOrder : Prop :=
  ∀ (s : State) (src : SlowSource) (i : InPorts), ∃ t u : State, s.clock src i = .next t ∧
    t = { u with blk.out := t.blk.out } ∧
    (i.rst = true → exec .rst s = .next u ∧ t.blk.out = Out.none) ∧
    (i.rst = false →
      perform ([.btn i.btnN, .adc i.adc] ++
        (if i.ftickEn then [if src = .derived then .tick else .ftick] else []) ++ (if i.stickEn then [.stick] else []) ++
        (i.cmd.toList.map (fun ch => .cmd ch)) ++ (i.line.toList.map (fun l => .line l.1 l.2))) s = .next u)

/-- R137: the status line shows minutes and seconds as two decimal digits each, and, in extended mode, the analog value in
decimal without padding, the duty before gating and the indicator mode. Every number is spelled out by its digits. -/
def Obligations.StatusLineShowsTheTime : Prop :=
  ∀ (s : State) (a : Nat), a = s.blk.ctl.adcSample.val →
    s.ports.statusLine = "Time remaining: " ++ String.ofList
        [Nat.digitChar (s.blk.ctl.minutes.val / 10), Nat.digitChar (s.blk.ctl.minutes.val % 10), ':',
          Nat.digitChar (s.blk.ctl.seconds.val / 10), Nat.digitChar (s.blk.ctl.seconds.val % 10)] ++
      (if s.blk.ctl.extendedInfo = true then
        " | ADC = " ++ String.ofList
            (if a < 10 then [Nat.digitChar a]
            else if a < 100 then [Nat.digitChar (a / 10), Nat.digitChar (a % 10)]
            else if a < 1000 then [Nat.digitChar (a / 100), Nat.digitChar (a / 10 % 10), Nat.digitChar (a % 10)]
            else [Nat.digitChar (a / 1000), Nat.digitChar (a / 100 % 10), Nat.digitChar (a / 10 % 10),
              Nat.digitChar (a % 10)]) ++
          " | LED2 dutyTicks = " ++ String.ofList [Nat.digitChar s.blk.ctl.dutyTicks.val] ++
          " | LED2 mode = " ++ (if s.blk.ctl.blinkIndicator = true then "BLINK" else "SOLID")
      else "")
end

