-- ==== Sys2Proof/Laws/State.lean ====
section
/-! SUPPORT. One lemma per field per named update of the state, and the parameter values, true by unfolding, so that later proofs
need not unfold a record update. -/

namespace Sys2Proof.Machine

variable {p : Params}

/-! ### The parameter values of R5

Not definitional (`(rfl)`): they rewrite numbers, and leave the parameters inside the fields' types alone. -/

@[simp] theorem params_period : Config.params.period = 5 := (rfl)
@[simp] theorem params_rampDiv : Config.params.rampDiv = 150 := (rfl)
@[simp] theorem params_adcMax : Config.params.adcMax = 1023 := (rfl)
@[simp] theorem params_defaultMin : Config.params.defaultMin = 0 := (rfl)
@[simp] theorem params_defaultSec : Config.params.defaultSec = 10 := (rfl)
@[simp] theorem params_secMax : Config.params.secMax = 59 := (rfl)
@[simp] theorem params_minMax : Config.params.minMax = 99 := (rfl)
@[simp] theorem params_minTop : Config.params.minTop = 99 := (rfl)
@[simp] theorem params_secTop : Config.params.secTop = 59 := (rfl)
@[simp] theorem params_slowDiv : Config.params.slowDiv = 20 := (rfl)
@[simp] theorem params_ticksPerSec : Config.params.ticksPerSec = 50 := (rfl)
@[simp] theorem params_longPressTicks : Config.params.longPressTicks = 50 := (rfl)
@[simp] theorem params_comboLongTicks : Config.params.comboLongTicks = 50 := (rfl)
@[simp] theorem params_settleTicks : Config.params.settleTicks = 3 := (rfl)
@[simp] theorem params_holdMax : Config.params.holdMax = 65535 := (rfl)
@[simp] theorem params_doneTicks : Config.params.doneTicks = 250 := (rfl)
@[simp] theorem params_doneToggleTicks : Config.params.doneToggleTicks = 10 := (rfl)
@[simp] theorem params_primaryBtn : Config.params.primaryBtn = 0 := (rfl)
@[simp] theorem params_comboBtnA : Config.params.comboBtnA = 1 := (rfl)
@[simp] theorem params_comboBtnB : Config.params.comboBtnB = 2 := (rfl)
@[simp] theorem params_pauseBtn : Config.params.pauseBtn = 2 := (rfl)
@[simp] theorem params_cmdInfo : Config.params.cmdInfo = 0x69 := (rfl)
@[simp] theorem params_cmdBlink : Config.params.cmdBlink = 0x62 := (rfl)
@[simp] theorem params_dutyMap (a : Nat) : Config.params.dutyMap a = a * 5 / 1023 := (rfl)

/-! ### `State.withBlock` -/

@[simp] theorem State.withBlock_blk (s : State) (b : Block Config.params) : (s.withBlock b).blk = b := rfl
@[simp] theorem State.withBlock_stream (s : State) (b : Block Config.params) : (s.withBlock b).stream = s.stream := rfl
@[simp] theorem State.withBlock_wordIndex (s : State) (b : Block Config.params) : (s.withBlock b).wordIndex = s.wordIndex := rfl

/-! ### `Block.quiet` -/

@[simp] theorem Block.quiet_gen (b : Block p) : (b.quiet).gen = b.gen := rfl
@[simp] theorem Block.quiet_ctl (b : Block p) : (b.quiet).ctl = b.ctl := rfl
@[simp] theorem Block.quiet_slowDiv (b : Block p) : (b.quiet).slowDiv = b.slowDiv := rfl
@[simp] theorem Block.quiet_pinBtn (b : Block p) : (b.quiet).pinBtn = b.pinBtn := rfl
@[simp] theorem Block.quiet_pinAdc (b : Block p) : (b.quiet).pinAdc = b.pinAdc := rfl
@[simp] theorem Block.quiet_out (b : Block p) : (b.quiet).out = Out.none := rfl

/-! ### `Block.emit` -/

@[simp] theorem Block.emit_gen (b : Block p) (e : Event) : (b.emit e).gen = b.gen := rfl
@[simp] theorem Block.emit_ctl (b : Block p) (e : Event) : (b.emit e).ctl = b.ctl := rfl
@[simp] theorem Block.emit_slowDiv (b : Block p) (e : Event) : (b.emit e).slowDiv = b.slowDiv := rfl
@[simp] theorem Block.emit_pinBtn (b : Block p) (e : Event) : (b.emit e).pinBtn = b.pinBtn := rfl
@[simp] theorem Block.emit_pinAdc (b : Block p) (e : Event) : (b.emit e).pinAdc = b.pinAdc := rfl
@[simp] theorem Block.emit_out (b : Block p) (e : Event) : (b.emit e).out = b.out.emit e := rfl

/-! ### `Block.resetControl` -/

@[simp] theorem Block.resetControl_gen (b : Block p) : (b.resetControl).gen = b.gen := rfl
@[simp] theorem Block.resetControl_ctl (b : Block p) : (b.resetControl).ctl = Control.reset p := rfl
@[simp] theorem Block.resetControl_slowDiv (b : Block p) : (b.resetControl).slowDiv = b.slowDiv := rfl
@[simp] theorem Block.resetControl_pinBtn (b : Block p) : (b.resetControl).pinBtn = b.pinBtn := rfl
@[simp] theorem Block.resetControl_pinAdc (b : Block p) : (b.resetControl).pinAdc = b.pinAdc := rfl
@[simp] theorem Block.resetControl_out (b : Block p) : (b.resetControl).out = b.out := rfl

/-! ### `Control.setHold` -/

@[simp] theorem Control.setHold_state (c : Control p) (k : HoldIndex) (hc : HoldCounter p) : (c.setHold k hc).state = c.state := rfl
@[simp] theorem Control.setHold_entered (c : Control p) (k : HoldIndex) (hc : HoldCounter p) : (c.setHold k hc).entered = c.entered := rfl
@[simp] theorem Control.setHold_tePhase (c : Control p) (k : HoldIndex) (hc : HoldCounter p) : (c.setHold k hc).tePhase = c.tePhase := rfl
@[simp] theorem Control.setHold_hold (c : Control p) (k : HoldIndex) (hc : HoldCounter p) : (c.setHold k hc).hold = c.hold.set k hc := rfl
@[simp] theorem Control.setHold_minutes (c : Control p) (k : HoldIndex) (hc : HoldCounter p) : (c.setHold k hc).minutes = c.minutes := rfl
@[simp] theorem Control.setHold_seconds (c : Control p) (k : HoldIndex) (hc : HoldCounter p) : (c.setHold k hc).seconds = c.seconds := rfl
@[simp] theorem Control.setHold_paused (c : Control p) (k : HoldIndex) (hc : HoldCounter p) : (c.setHold k hc).paused = c.paused := rfl
@[simp] theorem Control.setHold_tickAcc (c : Control p) (k : HoldIndex) (hc : HoldCounter p) : (c.setHold k hc).tickAcc = c.tickAcc := rfl
@[simp] theorem Control.setHold_doneCount (c : Control p) (k : HoldIndex) (hc : HoldCounter p) : (c.setHold k hc).doneCount = c.doneCount := rfl
@[simp] theorem Control.setHold_extendedInfo (c : Control p) (k : HoldIndex) (hc : HoldCounter p) : (c.setHold k hc).extendedInfo = c.extendedInfo := rfl
@[simp] theorem Control.setHold_blinkIndicator (c : Control p) (k : HoldIndex) (hc : HoldCounter p) : (c.setHold k hc).blinkIndicator = c.blinkIndicator := rfl
@[simp] theorem Control.setHold_blinkPhase (c : Control p) (k : HoldIndex) (hc : HoldCounter p) : (c.setHold k hc).blinkPhase = c.blinkPhase := rfl
@[simp] theorem Control.setHold_cmdAvail (c : Control p) (k : HoldIndex) (hc : HoldCounter p) : (c.setHold k hc).cmdAvail = c.cmdAvail := rfl
@[simp] theorem Control.setHold_cmdChar (c : Control p) (k : HoldIndex) (hc : HoldCounter p) : (c.setHold k hc).cmdChar = c.cmdChar := rfl
@[simp] theorem Control.setHold_adcSample (c : Control p) (k : HoldIndex) (hc : HoldCounter p) : (c.setHold k hc).adcSample = c.adcSample := rfl
@[simp] theorem Control.setHold_dutyTicks (c : Control p) (k : HoldIndex) (hc : HoldCounter p) : (c.setHold k hc).dutyTicks = c.dutyTicks := rfl
@[simp] theorem Control.setHold_statA (c : Control p) (k : HoldIndex) (hc : HoldCounter p) : (c.setHold k hc).statA = c.statA := rfl
@[simp] theorem Control.setHold_statB (c : Control p) (k : HoldIndex) (hc : HoldCounter p) : (c.setHold k hc).statB = c.statB := rfl

/-! ### `Control.clearHolds` -/

@[simp] theorem Control.clearHolds_state (c : Control p) : (c.clearHolds).state = c.state := rfl
@[simp] theorem Control.clearHolds_entered (c : Control p) : (c.clearHolds).entered = c.entered := rfl
@[simp] theorem Control.clearHolds_tePhase (c : Control p) : (c.clearHolds).tePhase = c.tePhase := rfl
@[simp] theorem Control.clearHolds_hold (c : Control p) : (c.clearHolds).hold = HoldFile.zero p := rfl
@[simp] theorem Control.clearHolds_minutes (c : Control p) : (c.clearHolds).minutes = c.minutes := rfl
@[simp] theorem Control.clearHolds_seconds (c : Control p) : (c.clearHolds).seconds = c.seconds := rfl
@[simp] theorem Control.clearHolds_paused (c : Control p) : (c.clearHolds).paused = c.paused := rfl
@[simp] theorem Control.clearHolds_tickAcc (c : Control p) : (c.clearHolds).tickAcc = c.tickAcc := rfl
@[simp] theorem Control.clearHolds_doneCount (c : Control p) : (c.clearHolds).doneCount = c.doneCount := rfl
@[simp] theorem Control.clearHolds_extendedInfo (c : Control p) : (c.clearHolds).extendedInfo = c.extendedInfo := rfl
@[simp] theorem Control.clearHolds_blinkIndicator (c : Control p) : (c.clearHolds).blinkIndicator = c.blinkIndicator := rfl
@[simp] theorem Control.clearHolds_blinkPhase (c : Control p) : (c.clearHolds).blinkPhase = c.blinkPhase := rfl
@[simp] theorem Control.clearHolds_cmdAvail (c : Control p) : (c.clearHolds).cmdAvail = c.cmdAvail := rfl
@[simp] theorem Control.clearHolds_cmdChar (c : Control p) : (c.clearHolds).cmdChar = c.cmdChar := rfl
@[simp] theorem Control.clearHolds_adcSample (c : Control p) : (c.clearHolds).adcSample = c.adcSample := rfl
@[simp] theorem Control.clearHolds_dutyTicks (c : Control p) : (c.clearHolds).dutyTicks = c.dutyTicks := rfl
@[simp] theorem Control.clearHolds_statA (c : Control p) : (c.clearHolds).statA = c.statA := rfl
@[simp] theorem Control.clearHolds_statB (c : Control p) : (c.clearHolds).statB = c.statB := rfl

/-! ### `Control.goTo` -/

@[simp] theorem Control.goTo_state (c : Control p) (st : TimerState) : (c.goTo st).state = st := rfl
@[simp] theorem Control.goTo_entered (c : Control p) (st : TimerState) : (c.goTo st).entered = false := rfl
@[simp] theorem Control.goTo_tePhase (c : Control p) (st : TimerState) : (c.goTo st).tePhase = c.tePhase := rfl
@[simp] theorem Control.goTo_hold (c : Control p) (st : TimerState) : (c.goTo st).hold = HoldFile.zero p := rfl
@[simp] theorem Control.goTo_minutes (c : Control p) (st : TimerState) : (c.goTo st).minutes = c.minutes := rfl
@[simp] theorem Control.goTo_seconds (c : Control p) (st : TimerState) : (c.goTo st).seconds = c.seconds := rfl
@[simp] theorem Control.goTo_paused (c : Control p) (st : TimerState) : (c.goTo st).paused = c.paused := rfl
@[simp] theorem Control.goTo_tickAcc (c : Control p) (st : TimerState) : (c.goTo st).tickAcc = c.tickAcc := rfl
@[simp] theorem Control.goTo_doneCount (c : Control p) (st : TimerState) : (c.goTo st).doneCount = c.doneCount := rfl
@[simp] theorem Control.goTo_extendedInfo (c : Control p) (st : TimerState) : (c.goTo st).extendedInfo = c.extendedInfo := rfl
@[simp] theorem Control.goTo_blinkIndicator (c : Control p) (st : TimerState) : (c.goTo st).blinkIndicator = c.blinkIndicator := rfl
@[simp] theorem Control.goTo_blinkPhase (c : Control p) (st : TimerState) : (c.goTo st).blinkPhase = c.blinkPhase := rfl
@[simp] theorem Control.goTo_cmdAvail (c : Control p) (st : TimerState) : (c.goTo st).cmdAvail = c.cmdAvail := rfl
@[simp] theorem Control.goTo_cmdChar (c : Control p) (st : TimerState) : (c.goTo st).cmdChar = c.cmdChar := rfl
@[simp] theorem Control.goTo_adcSample (c : Control p) (st : TimerState) : (c.goTo st).adcSample = c.adcSample := rfl
@[simp] theorem Control.goTo_dutyTicks (c : Control p) (st : TimerState) : (c.goTo st).dutyTicks = c.dutyTicks := rfl
@[simp] theorem Control.goTo_statA (c : Control p) (st : TimerState) : (c.goTo st).statA = c.statA := rfl
@[simp] theorem Control.goTo_statB (c : Control p) (st : TimerState) : (c.goTo st).statB = c.statB := rfl

/-! ### `Control.setDuration` -/

@[simp] theorem Control.setDuration_state (c : Control p) (d : Duration p) : (c.setDuration d).state = c.state := rfl
@[simp] theorem Control.setDuration_entered (c : Control p) (d : Duration p) : (c.setDuration d).entered = c.entered := rfl
@[simp] theorem Control.setDuration_tePhase (c : Control p) (d : Duration p) : (c.setDuration d).tePhase = c.tePhase := rfl
@[simp] theorem Control.setDuration_hold (c : Control p) (d : Duration p) : (c.setDuration d).hold = c.hold := rfl
@[simp] theorem Control.setDuration_minutes (c : Control p) (d : Duration p) : (c.setDuration d).minutes = d.minutes := rfl
@[simp] theorem Control.setDuration_seconds (c : Control p) (d : Duration p) : (c.setDuration d).seconds = d.seconds := rfl
@[simp] theorem Control.setDuration_paused (c : Control p) (d : Duration p) : (c.setDuration d).paused = c.paused := rfl
@[simp] theorem Control.setDuration_tickAcc (c : Control p) (d : Duration p) : (c.setDuration d).tickAcc = c.tickAcc := rfl
@[simp] theorem Control.setDuration_doneCount (c : Control p) (d : Duration p) : (c.setDuration d).doneCount = c.doneCount := rfl
@[simp] theorem Control.setDuration_extendedInfo (c : Control p) (d : Duration p) : (c.setDuration d).extendedInfo = c.extendedInfo := rfl
@[simp] theorem Control.setDuration_blinkIndicator (c : Control p) (d : Duration p) : (c.setDuration d).blinkIndicator = c.blinkIndicator := rfl
@[simp] theorem Control.setDuration_blinkPhase (c : Control p) (d : Duration p) : (c.setDuration d).blinkPhase = c.blinkPhase := rfl
@[simp] theorem Control.setDuration_cmdAvail (c : Control p) (d : Duration p) : (c.setDuration d).cmdAvail = c.cmdAvail := rfl
@[simp] theorem Control.setDuration_cmdChar (c : Control p) (d : Duration p) : (c.setDuration d).cmdChar = c.cmdChar := rfl
@[simp] theorem Control.setDuration_adcSample (c : Control p) (d : Duration p) : (c.setDuration d).adcSample = c.adcSample := rfl
@[simp] theorem Control.setDuration_dutyTicks (c : Control p) (d : Duration p) : (c.setDuration d).dutyTicks = c.dutyTicks := rfl
@[simp] theorem Control.setDuration_statA (c : Control p) (d : Duration p) : (c.setDuration d).statA = c.statA := rfl
@[simp] theorem Control.setDuration_statB (c : Control p) (d : Duration p) : (c.setDuration d).statB = c.statB := rfl

/-! ### The hold file -/

@[simp] theorem HoldFile.get_set (f : HoldFile p) (k : HoldIndex) (hc : HoldCounter p) : (f.set k hc).get k = hc := by
  cases k <;> rfl

theorem HoldFile.get_set_of_ne (f : HoldFile p) {k j : HoldIndex} (hc : HoldCounter p) (h : j ≠ k) :
    (f.set k hc).get j = f.get j := by
  cases k <;> cases j <;> first | rfl | exact absurd rfl h

@[simp] theorem HoldFile.set_pri (f : HoldFile p) (hc : HoldCounter p) : f.set .pri hc = { f with pri := hc } := rfl
@[simp] theorem HoldFile.set_pau (f : HoldFile p) (hc : HoldCounter p) : f.set .pau hc = { f with pau := hc } := rfl
@[simp] theorem HoldFile.set_cmb (f : HoldFile p) (hc : HoldCounter p) : f.set .cmb hc = { f with cmb := hc } := rfl

@[simp] theorem HoldFile.get_zero (k : HoldIndex) : (HoldFile.zero p).get k = HoldCounter.zero p := by cases k <;> rfl
@[simp] theorem HoldFile.zero_pri : (HoldFile.zero p).pri = HoldCounter.zero p := rfl
@[simp] theorem HoldFile.zero_pau : (HoldFile.zero p).pau = HoldCounter.zero p := rfl
@[simp] theorem HoldFile.zero_cmb : (HoldFile.zero p).cmb = HoldCounter.zero p := rfl
@[simp] theorem HoldCounter.zero_active : (HoldCounter.zero p).active = false := rfl
@[simp] theorem HoldCounter.zero_ticks : (HoldCounter.zero p).ticks = 0 := rfl

/-! ### `Control.reset` -/

@[simp] theorem Control.reset_state  : (Control.reset p).state = .waiting := rfl
@[simp] theorem Control.reset_entered  : (Control.reset p).entered = false := rfl
@[simp] theorem Control.reset_tePhase  : (Control.reset p).tePhase = .prompt := rfl
@[simp] theorem Control.reset_hold  : (Control.reset p).hold = HoldFile.zero p := rfl
@[simp] theorem Control.reset_minutes  : (Control.reset p).minutes = 0 := rfl
@[simp] theorem Control.reset_seconds  : (Control.reset p).seconds = 0 := rfl
@[simp] theorem Control.reset_adcSample  : (Control.reset p).adcSample = 0 := rfl
@[simp] theorem Control.reset_dutyTicks  : (Control.reset p).dutyTicks = 0 := rfl
@[simp] theorem Control.reset_paused  : (Control.reset p).paused = false := rfl
@[simp] theorem Control.reset_extendedInfo  : (Control.reset p).extendedInfo = false := rfl
@[simp] theorem Control.reset_blinkIndicator  : (Control.reset p).blinkIndicator = false := rfl
@[simp] theorem Control.reset_blinkPhase  : (Control.reset p).blinkPhase = false := rfl
@[simp] theorem Control.reset_cmdAvail  : (Control.reset p).cmdAvail = false := rfl
@[simp] theorem Control.reset_cmdChar  : (Control.reset p).cmdChar = 0 := rfl
@[simp] theorem Control.reset_statA  : (Control.reset p).statA = false := rfl
@[simp] theorem Control.reset_statB  : (Control.reset p).statB = false := rfl

/-! ### The ranges of the fields at the default parameters (R32 (a) to (d), (i)) -/

theorem Generator.counter_lt (g : Generator Config.params) : g.counter.val < 5 := g.counter.isLt
theorem Generator.target_lt (g : Generator Config.params) : g.target.val < 6 := g.target.isLt
theorem Generator.rampCount_lt (g : Generator Config.params) : g.rampCount.val < 150 := g.rampCount.isLt
theorem HoldCounter.ticks_lt (hc : HoldCounter Config.params) : hc.ticks.val < 65536 := hc.ticks.isLt
theorem Control.minutes_lt (c : Control Config.params) : c.minutes.val < 100 := c.minutes.isLt
theorem Control.seconds_lt (c : Control Config.params) : c.seconds.val < 60 := c.seconds.isLt
theorem Control.tickAcc_lt (c : Control Config.params) : c.tickAcc.val < 50 := c.tickAcc.isLt
theorem Control.doneCount_lt (c : Control Config.params) : c.doneCount.val < 250 := c.doneCount.isLt
theorem Control.adcSample_lt (c : Control Config.params) : c.adcSample.val < 1024 := c.adcSample.isLt
theorem Block.pinAdc_lt (b : Block Config.params) : b.pinAdc.val < 1024 := b.pinAdc.isLt
theorem Control.dutyTicks_lt (c : Control Config.params) : c.dutyTicks.val < 6 := c.dutyTicks.isLt
theorem Block.slowDiv_lt (b : Block Config.params) : b.slowDiv.val < 20 := b.slowDiv.isLt
theorem Duration.minutes_lt (d : Duration Config.params) : d.minutes.val < 100 := d.minutes.isLt
theorem Duration.seconds_lt (d : Duration Config.params) : d.seconds.val < 60 := d.seconds.isLt

end Sys2Proof.Machine
end

