-- ==== Sys2Proof/Laws/Ops.lean ====
section
/-! SUPPORT. For each shared operation, one lemma that says once everything it can do. -/

namespace Sys2Proof.Machine

variable {p : Params}

/-! ### Counters and pins -/

/-- A counter advances by one modulo its range. -/
@[simp] theorem wrapNext_val {n : Nat} (c : Fin n) : (wrapNext c).val = (c.val + 1) % n := by
  unfold wrapNext
  split
  · next h => exact (Nat.mod_eq_of_lt h).symm
  · next h =>
    have : c.val + 1 = n := by omega
    simp [this]

@[simp] theorem atTop_iff {n : Nat} (c : Fin n) : atTop c = true ↔ c.val + 1 = n := by simp [atTop]

/-- Below its top a counter advances by one. -/
theorem wrapNext_val_of_not_atTop {n : Nat} {c : Fin n} (h : atTop c = false) : (wrapNext c).val = c.val + 1 := by
  have : c.val + 1 ≠ n := by simpa [atTop] using h
  rw [wrapNext_val]
  exact Nat.mod_eq_of_lt (by omega)

/-- A button is pressed exactly where its level is 0 (R8). -/
@[simp] theorem pressed_iff (pins : BitVec 3) (k : Fin 3) : pressed pins k = true ↔ pins.getLsbD k.val = false := by
  simp [pressed, buttonLevel]

@[simp] theorem comboAsserted_iff (pins : BitVec 3) :
    comboAsserted p pins = true ↔
      pins.getLsbD p.comboBtnA.val = false ∧ pins.getLsbD p.comboBtnB.val = false := by
  simp [comboAsserted]

@[simp] theorem dutyOf_val (a : Fin (p.adcMax + 1)) : (dutyOf p a).val = p.dutyMap a.val := rfl

@[simp] theorem analogReading_val (val : BitVec 10) : (analogReading val).val = val.toNat := rfl

/-! ### The detector -/

@[simp] theorem satTick_val (t : Fin (p.holdMax + 1)) : (satTick t).val = min (t.val + 1) p.holdMax := rfl

/-- An asserted sample (R71). -/
@[simp] theorem holdStep_asserted (hc : HoldCounter p) (threshold : Nat) :
    holdStep hc true threshold = ⟨⟨true, satTick hc.ticks⟩, .idle, 0⟩ := rfl

/-- An unasserted sample (R71). -/
@[simp] theorem holdStep_released (hc : HoldCounter p) (threshold : Nat) :
    holdStep hc false threshold = ⟨HoldCounter.zero p, classify hc.ticks.val threshold, hc.ticks.val⟩ := rfl

theorem classify_eq_idle (t threshold : Nat) : classify t threshold = .idle ↔ t = 0 := by
  unfold classify
  split
  · simp [*]
  · split <;> simp [*]

theorem classify_eq_shortClick (t threshold : Nat) : classify t threshold = .shortClick ↔ t ≠ 0 ∧ t < threshold := by
  unfold classify
  split
  · simp [*]
  · split <;> simp <;> omega

theorem classify_eq_longPress (t threshold : Nat) : classify t threshold = .longPress ↔ t ≠ 0 ∧ threshold ≤ t := by
  unfold classify
  split
  · simp [*]
  · split <;> simp <;> omega

/-- A click qualifies by its length alone (R74). -/
@[simp] theorem qualifyingClick_classify (n threshold : Nat) :
    qualifyingClick p (classify n threshold) n = true ↔ p.settleTicks ≤ n ∧ n < threshold := by
  have := p.settle_pos
  simp only [qualifyingClick, Bool.and_eq_true, decide_eq_true_eq, classify_eq_shortClick]
  omega

@[simp] theorem qualifyingClick_idle (n : Nat) : qualifyingClick p .idle n = false := rfl

/-! ### The generator -/

/-- The PWM step (R86) is what a fast tick does to the counter and the output. -/
@[simp] theorem Generator.tick_pwmOut (g : Generator p) (breathe : Bool) :
    (g.tick breathe).pwmOut = decide (g.counter.val < g.target.val) := rfl

@[simp] theorem Generator.tick_counter (g : Generator p) (breathe : Bool) :
    (g.tick breathe).counter = wrapNext g.counter := rfl

/-- Outside `Waiting` the ramp is inert and its interval restarts (R88). -/
theorem Generator.tick_inert (g : Generator p) :
    (g.tick false).target = g.target ∧ (g.tick false).step = g.step ∧ (g.tick false).rampCount.val = 0 := ⟨rfl, rfl, rfl⟩

/-- In `Waiting` a fast tick that does not end the interval only counts (R88). -/
theorem Generator.tick_counts {g : Generator p} (h : atTop g.rampCount = false) :
    (g.tick true).target = g.target ∧ (g.tick true).step = g.step ∧
      (g.tick true).rampCount.val = g.rampCount.val + 1 := by
  simp [Generator.tick, Generator.ramp, h, wrapNext_val_of_not_atTop h, -wrapNext_val]

/-- In `Waiting` the fast tick that ends the interval performs a ramp step (R88, R89). -/
theorem Generator.tick_ramps {g : Generator p} (h : atTop g.rampCount = true) :
    (g.tick true).target = rampTarget g.target g.step ∧
      (g.tick true).step = rampDir (rampTarget g.target g.step) g.step ∧ (g.tick true).rampCount.val = 0 := by
  have h' : g.rampCount.val + 1 = p.rampDiv := by simpa using h
  simp [Generator.tick, Generator.ramp, h, h', Generator.rampStep]

/-- The value of a ramp step: up to the top, or down to 0 (R89). -/
theorem rampTarget_val (t : Fin (p.period + 1)) (d : RampDir) :
    (rampTarget t d).val = match d with | .up => min (t.val + 1) p.period | .down => t.val - 1 := by
  cases d <;> simp only [rampTarget, clamp, RampDir.toInt] <;> omega

/-- `FTICK` on the block writes the generator and clears the output record. -/
theorem Block.fastTick_eq (b : Block p) :
    b.fastTick = { b with gen := b.gen.tick b.ctl.breathe, out := Out.none } := rfl

/-! ### The countdown engine -/

/-- The decrement in seconds (R101). -/
theorem Duration.decrement_total (d : Duration p) :
    60 * d.decrement.minutes.val + d.decrement.seconds.val = 60 * d.minutes.val + d.seconds.val - 1 := by
  unfold Duration.decrement
  split
  · simp only; omega
  · split
    · simp only; omega
    · simp only [Duration.zero, Fin.val_zero]; omega

theorem Duration.decrement_minutes (d : Duration p) :
    d.decrement.minutes.val = if d.seconds.val = 0 then d.minutes.val - 1 else d.minutes.val := by
  unfold Duration.decrement
  split
  · simp [*]
  · split
    · simp_all
    · simp_all [Duration.zero]

theorem Duration.complete_iff (d : Duration p) : d.complete = true ↔ d.minutes.val = 0 ∧ d.seconds.val = 0 := by
  simp [Duration.complete]

/-- A decrement completes exactly from the last second or from `(0, 0)` (R101). -/
theorem Duration.decrement_complete_iff (d : Duration p) :
    d.decrement.complete = true ↔ d.minutes.val = 0 ∧ d.seconds.val ≤ 1 := by
  rw [Duration.complete_iff]
  unfold Duration.decrement
  split
  · simp only; omega
  · split
    · simp only; omega
    · simp_all [Duration.zero]

/-! ### `programTarget` -/

/-- What `programTarget()` writes (R122). -/
theorem Block.programTarget_target (b : Block p) :
    b.programTarget.gen.target.val = if b.ctl.darkPhase then 0 else p.dutyMap b.pinAdc.val := by
  unfold Block.programTarget
  simp only
  split <;> simp

/-- A command character keeps every field but the two display modes (R121). -/
theorem Control.command_eq (c : Control p) (ch : Byte) :
    c.command ch = { c with
      extendedInfo := if ch = p.cmdInfo then !c.extendedInfo else c.extendedInfo
      blinkIndicator := if ch = p.cmdBlink then !c.blinkIndicator else c.blinkIndicator } := by
  unfold Control.command
  by_cases h1 : ch = p.cmdInfo
  · subst h1
    simp [p.cmd_distinct]
  · by_cases h2 : ch = p.cmdBlink <;> simp [h1, h2, Ne.symm p.cmd_distinct]

/-! ### Dispatch -/

/-- Every operation completes and touches only the block (R155). -/
theorem exec_eq_next (i : Instr) (s : State) : ∃ b, exec i s = .next (s.withBlock b) := by
  cases i <;> exact ⟨_, rfl⟩

/-- No step faults. -/
theorem step_cases (s : State) :
    (∃ i s', s.fetch = .ok (i, s') ∧ step s = exec i s') ∨ (∃ r, s.fetch = .error r ∧ step s = .refused r) := by
  unfold step
  rcases h : s.fetch with r | ⟨i, s'⟩
  · exact .inr ⟨r, rfl, rfl⟩
  · exact .inl ⟨i, s', rfl, rfl⟩

end Sys2Proof.Machine
end

