-- ==== Sys2Proof/Laws/Controller.lean ====
section
/-! SUPPORT. What each sub-rule of the slow tick does, case by case, as an equation between blocks: the provers rewrite with these
instead of unfolding the controller. -/

namespace Sys2Proof.Machine

variable {p : Params}

/-! ### Entry actions -/

@[simp] theorem Block.enter_of_entered {b : Block p} (h : b.ctl.entered = true) (action : Block p → Block p) :
    b.enter action = b := by simp [Block.enter, h]

@[simp] theorem Block.enter_of_not_entered {b : Block p} (h : b.ctl.entered = false) (action : Block p → Block p) :
    b.enter action = action b := by simp [Block.enter, h]

theorem Block.slowTick_waiting {b : Block p} (h : b.ctl.state = .waiting) :
    b.slowTick = (b.quiet.enter Block.waitingEntry).waitingBody := by simp [Block.slowTick, h]

theorem Block.slowTick_timeEntry {b : Block p} (h : b.ctl.state = .timeEntry) :
    b.slowTick = (b.quiet.enter Block.timeEntryEntry).timeEntryBody := by simp [Block.slowTick, h]

theorem Block.slowTick_countdown {b : Block p} (h : b.ctl.state = .countdown) :
    b.slowTick = (b.quiet.enter Block.countdownEntry).countdownBody := by simp [Block.slowTick, h]

theorem Block.slowTick_done {b : Block p} (h : b.ctl.state = .done) :
    b.slowTick = (b.quiet.enter Block.doneEntry).doneBody := by simp [Block.slowTick, h]

/-! ### `Waiting` (R117) -/

theorem Block.waitingBody_pressed {b : Block p} (h : pressed b.pinBtn p.primaryBtn = true) :
    b.waitingBody = { b with ctl.hold.pri := ⟨true, satTick b.ctl.hold.pri.ticks⟩ } := by
  simp [Block.waitingBody, h, Control.setHold]

theorem Block.waitingBody_click {b : Block p} (h : pressed b.pinBtn p.primaryBtn = false)
    (hs : p.settleTicks ≤ b.ctl.hold.pri.ticks.val) (hl : b.ctl.hold.pri.ticks.val < p.longPressTicks) :
    b.waitingBody = { b with
      ctl.state := .timeEntry, ctl.entered := false, ctl.tePhase := .prompt, ctl.hold := HoldFile.zero p } := by
  have hq := (qualifyingClick_classify (p := p) b.ctl.hold.pri.ticks.val p.longPressTicks).2 ⟨hs, hl⟩
  simp only [Block.waitingBody, h, holdStep_released, hq, if_true]
  rfl

theorem Block.waitingBody_other {b : Block p} (h : pressed b.pinBtn p.primaryBtn = false)
    (hn : ¬(p.settleTicks ≤ b.ctl.hold.pri.ticks.val ∧ b.ctl.hold.pri.ticks.val < p.longPressTicks)) :
    b.waitingBody = { b with ctl.hold.pri := HoldCounter.zero p } := by
  have hq : qualifyingClick p (classify b.ctl.hold.pri.ticks.val p.longPressTicks) b.ctl.hold.pri.ticks.val = false := by
    rw [Bool.eq_false_iff, ne_eq, qualifyingClick_classify]; exact hn
  simp only [Block.waitingBody, h, holdStep_released, hq]
  rfl

/-! ### `TimeEntry` (R119) -/

theorem Block.timeEntryBody_prompt {b : Block p} (h : b.ctl.tePhase = .prompt) : b.timeEntryBody = b := by
  simp [Block.timeEntryBody, h]

theorem Block.timeEntryBody_pressed {b : Block p} (h : b.ctl.tePhase = .armed) (hp : comboAsserted p b.pinBtn = true) :
    b.timeEntryBody = { b with ctl.hold.cmb := ⟨true, satTick b.ctl.hold.cmb.ticks⟩ } := by
  simp only [Block.timeEntryBody, h, hp, holdStep_asserted]
  simp [Control.setHold, h]

theorem Block.timeEntryBody_idle {b : Block p} (h : b.ctl.tePhase = .armed) (hp : comboAsserted p b.pinBtn = false)
    (hn : b.ctl.hold.cmb.ticks.val = 0) :
    b.timeEntryBody = { b with ctl.hold.cmb := HoldCounter.zero p } := by
  simp only [Block.timeEntryBody, h, hp, holdStep_released, (classify_eq_idle _ p.comboLongTicks).2 hn]
  simp [Control.setHold, h]

theorem Block.timeEntryBody_short {b : Block p} (h : b.ctl.tePhase = .armed) (hp : comboAsserted p b.pinBtn = false)
    (hn : b.ctl.hold.cmb.ticks.val ≠ 0) (hl : b.ctl.hold.cmb.ticks.val < p.comboLongTicks) :
    b.timeEntryBody = { b with
      ctl.state := .countdown, ctl.entered := false, ctl.tePhase := .prompt, ctl.hold := HoldFile.zero p } := by
  simp only [Block.timeEntryBody, h, hp, holdStep_released, (classify_eq_shortClick _ p.comboLongTicks).2 ⟨hn, hl⟩]
  rfl

theorem Block.timeEntryBody_long {b : Block p} (h : b.ctl.tePhase = .armed) (hp : comboAsserted p b.pinBtn = false)
    (hl : p.comboLongTicks ≤ b.ctl.hold.cmb.ticks.val) :
    b.timeEntryBody = { b with
      ctl.minutes := 0, ctl.seconds := 0, ctl.tePhase := .prompt, ctl.entered := false,
      ctl.hold := HoldFile.zero p } := by
  have hn : b.ctl.hold.cmb.ticks.val ≠ 0 := by have := p.comboLong_pos; omega
  simp only [Block.timeEntryBody, h, hp, holdStep_released, (classify_eq_longPress _ p.comboLongTicks).2 ⟨hn, hl⟩]
  rfl

/-! ### `Countdown` (R121 to R123) -/

theorem Block.countdownButton_pressed {b : Block p} (h : pressed b.pinBtn p.pauseBtn = true) :
    b.countdownButton = .goesOn { b with ctl.hold.pau := ⟨true, satTick b.ctl.hold.pau.ticks⟩ } := by
  simp [Block.countdownButton, h, Control.setHold]

theorem Block.countdownButton_abort {b : Block p} (h : pressed b.pinBtn p.pauseBtn = false)
    (hl : p.longPressTicks ≤ b.ctl.hold.pau.ticks.val) :
    b.countdownButton = .aborted { b with
      ctl.minutes := 0, ctl.seconds := 0, ctl.state := .done, ctl.entered := false, ctl.hold := HoldFile.zero p,
      ctl.cmdAvail := false } := by
  have hn : b.ctl.hold.pau.ticks.val ≠ 0 := by
    have := p.settle_pos; have := p.settle_le_longPress; omega
  simp only [Block.countdownButton, h, holdStep_released, (classify_eq_longPress _ p.longPressTicks).2 ⟨hn, hl⟩, if_true]
  rfl

theorem Block.countdownButton_click {b : Block p} (h : pressed b.pinBtn p.pauseBtn = false)
    (hs : p.settleTicks ≤ b.ctl.hold.pau.ticks.val) (hl : b.ctl.hold.pau.ticks.val < p.longPressTicks) :
    b.countdownButton = .goesOn { b with ctl.hold.pau := HoldCounter.zero p, ctl.paused := !b.ctl.paused } := by
  have hq := (qualifyingClick_classify (p := p) b.ctl.hold.pau.ticks.val p.longPressTicks).2 ⟨hs, hl⟩
  have hn : ¬classify b.ctl.hold.pau.ticks.val p.longPressTicks = .longPress := by
    rw [classify_eq_longPress]; omega
  simp only [Block.countdownButton, h, holdStep_released, hq, hn, if_true, if_false]
  rfl

theorem Block.countdownButton_other {b : Block p} (h : pressed b.pinBtn p.pauseBtn = false)
    (hs : b.ctl.hold.pau.ticks.val < p.settleTicks) :
    b.countdownButton = .goesOn { b with ctl.hold.pau := HoldCounter.zero p } := by
  have hl : b.ctl.hold.pau.ticks.val < p.longPressTicks := by have := p.settle_le_longPress; omega
  have hq : qualifyingClick p (classify b.ctl.hold.pau.ticks.val p.longPressTicks) b.ctl.hold.pau.ticks.val = false := by
    rw [Bool.eq_false_iff, ne_eq, qualifyingClick_classify]; omega
  have hn : ¬classify b.ctl.hold.pau.ticks.val p.longPressTicks = .longPress := by
    rw [classify_eq_longPress]; omega
  simp only [Block.countdownButton, h, holdStep_released, hq, hn, if_false]
  rfl

/-- Step (2) whole: the flag is clear after it, and the character stays in its register. -/
theorem Block.countdownCommand_eq (b : Block p) :
    b.countdownCommand = { b with
      ctl.extendedInfo :=
        if b.ctl.cmdAvail = true ∧ b.ctl.cmdChar = p.cmdInfo then !b.ctl.extendedInfo else b.ctl.extendedInfo,
      ctl.blinkIndicator :=
        if b.ctl.cmdAvail = true ∧ b.ctl.cmdChar = p.cmdBlink then !b.ctl.blinkIndicator else b.ctl.blinkIndicator,
      ctl.cmdAvail := false } := by
  rcases b with ⟨g, c, d, pb, pa, o⟩
  cases h : c.cmdAvail
  · simp only [Block.countdownCommand, h, Bool.false_eq_true, if_false, false_and]
    rw [← h]
  · simp only [Block.countdownCommand, h, if_true, true_and, Control.command_eq]

/-- Step (3) and the first half of a `Done` tick (R122). -/
theorem Block.programTarget_eq (b : Block p) :
    b.programTarget = { b with
      ctl.adcSample := b.pinAdc, ctl.dutyTicks := dutyOf p b.pinAdc,
      gen.target := if b.ctl.darkPhase then 0 else dutyOf p b.pinAdc } := rfl

theorem Block.countdownSecond_counts {b : Block p} (h : ¬(b.ctl.secondBoundary = true ∧ b.ctl.paused = false)) :
    b.countdownSecond = { b with ctl.tickAcc := wrapNext b.ctl.tickAcc } := by
  have : (b.ctl.secondBoundary && !b.ctl.paused) = false := by
    rw [Bool.eq_false_iff, ne_eq, Bool.and_eq_true, Bool.not_eq_true']; exact h
  simp [Block.countdownSecond, this]

theorem Block.countdownSecond_decrements {b : Block p} (h : b.ctl.secondBoundary = true) (hp : b.ctl.paused = false)
    (hc : b.ctl.duration.decrement.complete = false) :
    b.countdownSecond = { b with
      ctl.tickAcc := wrapNext b.ctl.tickAcc, ctl.minutes := b.ctl.duration.decrement.minutes,
      ctl.seconds := b.ctl.duration.decrement.seconds, ctl.statA := !b.ctl.statA, ctl.blinkPhase := !b.ctl.blinkPhase,
      out := b.out.emit .status } := by
  have hc' : Duration.complete (Duration.decrement ⟨b.ctl.minutes, b.ctl.seconds⟩) = false := hc
  simp only [Block.countdownSecond, h, hp, Bool.not_false, Bool.and_self, if_true, Block.unpausedSecond,
    Control.duration, hc']
  rfl

theorem Block.countdownSecond_completes {b : Block p} (h : b.ctl.secondBoundary = true) (hp : b.ctl.paused = false)
    (hc : b.ctl.duration.decrement.complete = true) :
    b.countdownSecond = { b with
      ctl.tickAcc := wrapNext b.ctl.tickAcc, ctl.minutes := b.ctl.duration.decrement.minutes,
      ctl.seconds := b.ctl.duration.decrement.seconds, ctl.statA := !b.ctl.statA, ctl.blinkPhase := !b.ctl.blinkPhase,
      ctl.state := .done, ctl.entered := false, ctl.hold := HoldFile.zero p, out := b.out.emit .status } := by
  have hc' : Duration.complete (Duration.decrement ⟨b.ctl.minutes, b.ctl.seconds⟩) = true := hc
  simp only [Block.countdownSecond, h, hp, Bool.not_false, Bool.and_self, if_true, Block.unpausedSecond,
    Control.duration, hc']
  rfl

theorem Block.countdownBody_aborted {b b' : Block p} (h : b.countdownButton = .aborted b') : b.countdownBody = b' := by
  simp [Block.countdownBody, h]

theorem Block.countdownBody_goesOn {b b' : Block p} (h : b.countdownButton = .goesOn b') :
    b.countdownBody = b'.countdownCommand.programTarget.countdownSecond := by
  simp [Block.countdownBody, h]

/-! ### `Done` (R125) -/

theorem Block.doneBody_last {b : Block p} (h : b.ctl.doneCount.val + 1 = p.doneTicks) :
    b.doneBody = { b with
      ctl := Control.reset p, gen.target := if b.ctl.darkPhase then 0 else dutyOf p b.pinAdc } := by
  have ht : atTop b.programTarget.ctl.doneCount = true := (atTop_iff _).2 h
  simp only [Block.doneBody, ht, if_true]
  rfl

theorem Block.doneBody_counts {b : Block p} (h : b.ctl.doneCount.val + 1 ≠ p.doneTicks) :
    b.doneBody = { b with
      ctl.adcSample := b.pinAdc, ctl.dutyTicks := dutyOf p b.pinAdc, ctl.doneCount := wrapNext b.ctl.doneCount,
      ctl.statA := if (b.ctl.doneCount.val + 1) % p.doneToggleTicks = 0 then !b.ctl.statA else b.ctl.statA,
      ctl.statB := if (b.ctl.doneCount.val + 1) % p.doneToggleTicks = 0 then !b.ctl.statB else b.ctl.statB,
      gen.target := if b.ctl.darkPhase then 0 else dutyOf p b.pinAdc } := by
  have ht : atTop b.programTarget.ctl.doneCount = false := by
    rw [Bool.eq_false_iff, ne_eq, atTop_iff]; exact h
  simp only [Block.doneBody, ht, Bool.false_eq_true, if_false]
  simp only [Control.doneCounted, Control.swapsPair, Block.programTarget]
  by_cases hm : (b.ctl.doneCount.val + 1) % p.doneToggleTicks = 0 <;> simp [hm]

/-! ### The frame of a slow tick -/

/-- A slow tick writes the control domain, the duty target and the output record, and nothing else (R31). -/
abbrev Block.SlowFrame (b b' : Block p) : Prop :=
  b' = { b with ctl := b'.ctl, gen.target := b'.gen.target, out := b'.out }

theorem Block.SlowFrame.refl (b : Block p) : b.SlowFrame b := rfl

theorem Block.SlowFrame.trans {a b c : Block p} (h : a.SlowFrame b) (h' : b.SlowFrame c) : a.SlowFrame c := by
  rw [Block.SlowFrame, h', h]

theorem Block.waitingBody_frame (b : Block p) : b.SlowFrame b.waitingBody := by
  unfold Block.waitingBody
  simp only
  split <;> rfl

theorem Block.timeEntryBody_frame (b : Block p) : b.SlowFrame b.timeEntryBody := by
  unfold Block.timeEntryBody
  split
  · rfl
  · simp only
    split <;> rfl

theorem Block.countdownSecond_frame (b : Block p) : b.SlowFrame b.countdownSecond := by
  by_cases h : b.ctl.secondBoundary = true ∧ b.ctl.paused = false
  · rcases hc : b.ctl.duration.decrement.complete
    · rw [Block.countdownSecond_decrements h.1 h.2 hc]
    · rw [Block.countdownSecond_completes h.1 h.2 hc]
  · rw [Block.countdownSecond_counts h]

theorem Block.countdownBody_frame (b : Block p) : b.SlowFrame b.countdownBody := by
  have hrest : ∀ x : Block p, x.SlowFrame x.countdownCommand.programTarget.countdownSecond := fun x =>
    (((by rw [Block.countdownCommand_eq] : x.SlowFrame x.countdownCommand)).trans (by rw [Block.programTarget_eq])).trans
      (Block.countdownSecond_frame _)
  rcases h : pressed b.pinBtn p.pauseBtn
  · by_cases hl : p.longPressTicks ≤ b.ctl.hold.pau.ticks.val
    · rw [Block.countdownBody_aborted (Block.countdownButton_abort h hl)]
    · by_cases hs : p.settleTicks ≤ b.ctl.hold.pau.ticks.val
      · rw [Block.countdownBody_goesOn (Block.countdownButton_click h hs (by omega))]
        exact Block.SlowFrame.trans rfl (hrest _)
      · rw [Block.countdownBody_goesOn (Block.countdownButton_other h (by omega))]
        exact Block.SlowFrame.trans rfl (hrest _)
  · rw [Block.countdownBody_goesOn (Block.countdownButton_pressed h)]
    exact Block.SlowFrame.trans rfl (hrest _)

theorem Block.doneBody_frame (b : Block p) : b.SlowFrame b.doneBody := by
  by_cases h : b.ctl.doneCount.val + 1 = p.doneTicks
  · rw [Block.doneBody_last h]
  · rw [Block.doneBody_counts h]

theorem Block.enter_frame (b : Block p) (action : Block p → Block p) (h : b.SlowFrame (action b)) :
    b.SlowFrame (b.enter action) := by
  unfold Block.enter
  split
  · exact Block.SlowFrame.refl b
  · exact h

theorem Block.slowTick_frame (b : Block p) : b.SlowFrame b.slowTick := by
  refine Block.SlowFrame.trans (b := b.quiet) rfl ?_
  rcases h : b.ctl.state
  · rw [Block.slowTick_waiting h]
    exact (b.quiet.enter_frame _ rfl).trans (Block.waitingBody_frame _)
  · rw [Block.slowTick_timeEntry h]
    exact (b.quiet.enter_frame _ rfl).trans (Block.timeEntryBody_frame _)
  · rw [Block.slowTick_countdown h]
    exact (b.quiet.enter_frame _ rfl).trans (Block.countdownBody_frame _)
  · rw [Block.slowTick_done h]
    exact (b.quiet.enter_frame _ rfl).trans (Block.doneBody_frame _)

@[simp] theorem Block.slowTick_slowDiv (b : Block p) : b.slowTick.slowDiv = b.slowDiv := by rw [b.slowTick_frame]
@[simp] theorem Block.slowTick_pinBtn (b : Block p) : b.slowTick.pinBtn = b.pinBtn := by rw [b.slowTick_frame]
@[simp] theorem Block.slowTick_pinAdc (b : Block p) : b.slowTick.pinAdc = b.pinAdc := by rw [b.slowTick_frame]

end Sys2Proof.Machine
end

