-- ==== Sys2Proof/Laws/PerInstr.lean ====
section
/-! SUPPORT. The statements that are made once per operation. -/

namespace Sys2Proof.Laws

/-- The opcode of an operation (30_encoding.md R52). -/
def opcodeOf : Instr → Opcode
  | .nop => .nop
  | .rst => .rst
  | .ftick => .ftick
  | .stick => .stick
  | .tick => .tick
  | .btn _ => .btn
  | .adc _ => .adc
  | .cmd _ => .cmd
  | .line _ _ => .line

/-- The word of the operation has the fixed bits of its row of the opcode map and nothing in its reserved bits (R51, R52). -/
def MatchesItsRow.Statement (i : Instr) : Prop :=
  ∃ r ∈ opcodeTable, r.opcode = opcodeOf i ∧ r.matches (encode i) = true

theorem MatchesItsRow.nop : MatchesItsRow.Statement .nop :=
  ⟨⟨.nop, 0x00000000, 0xFFFFFFFF⟩, by decide, rfl, by decide⟩

theorem MatchesItsRow.rst : MatchesItsRow.Statement .rst :=
  ⟨⟨.rst, 0x01000000, 0xFFFFFFFF⟩, by decide, rfl, by decide⟩

theorem MatchesItsRow.ftick : MatchesItsRow.Statement .ftick :=
  ⟨⟨.ftick, 0x02000000, 0xFFFFFFFF⟩, by decide, rfl, by decide⟩

theorem MatchesItsRow.stick : MatchesItsRow.Statement .stick :=
  ⟨⟨.stick, 0x03000000, 0xFFFFFFFF⟩, by decide, rfl, by decide⟩

theorem MatchesItsRow.tick : MatchesItsRow.Statement .tick :=
  ⟨⟨.tick, 0x04000000, 0xFFFFFFFF⟩, by decide, rfl, by decide⟩

theorem MatchesItsRow.btn (lv : BitVec 3) : MatchesItsRow.Statement (.btn lv) := by
  refine ⟨⟨.btn, 0x10000000, 0xFFFFFFF8⟩, by decide, rfl, decide_eq_true ?_⟩
  refine BitVec.eq_of_getLsbD_eq fun k hk => ?_
  simp only [encode, BitVec.getLsbD_and, BitVec.getLsbD_append]
  interval_cases k <;> simp

theorem MatchesItsRow.adc (val : BitVec 10) : MatchesItsRow.Statement (.adc val) := by
  refine ⟨⟨.adc, 0x11000000, 0xFFFFFC00⟩, by decide, rfl, decide_eq_true ?_⟩
  refine BitVec.eq_of_getLsbD_eq fun k hk => ?_
  simp only [encode, BitVec.getLsbD_and, BitVec.getLsbD_append]
  interval_cases k <;> simp

theorem MatchesItsRow.cmd (ch : Byte) : MatchesItsRow.Statement (.cmd ch) := by
  refine ⟨⟨.cmd, 0x12000000, 0xFFFFFF00⟩, by decide, rfl, decide_eq_true ?_⟩
  refine BitVec.eq_of_getLsbD_eq fun k hk => ?_
  simp only [encode, BitVec.getLsbD_and, BitVec.getLsbD_append]
  interval_cases k <;> simp

theorem MatchesItsRow.line (n : BitVec 3) (dg : BitVec 16) : MatchesItsRow.Statement (.line n dg) := by
  refine ⟨⟨.line, 0x13000000, 0xFFF80000⟩, by decide, rfl, decide_eq_true ?_⟩
  refine BitVec.eq_of_getLsbD_eq fun k hk => ?_
  simp only [encode, BitVec.getLsbD_and, BitVec.getLsbD_append]
  interval_cases k <;> simp

end Sys2Proof.Laws
end

