-- ==== Sys2Proof/Laws/Run.lean ====
section
/-! SUPPORT. Sequences of operations: they complete, they append, and no operation reads the output record. -/

namespace Sys2Proof.Machine

open Sys2Proof.Safety

/-- No operation reads the output record that the one before it left (R37). -/
theorem exec_ignores_out (i : Instr) (s : State) (o : Out) : exec i { s with blk.out := o } = exec i s := by
  cases i with
  | cmd ch => simp only [exec, execCmd, Block.command, State.withBlock]; rfl
  | line n dg => simp only [exec, execLine, Block.line, State.withBlock]; rfl
  | tick => simp only [exec, execTick, Block.derivedTick, State.withBlock]; rfl
  | stick => simp only [exec, execStick, Block.slowTick, State.withBlock]; rfl
  | nop => rfl
  | rst => rfl
  | ftick => rfl
  | btn lv => rfl
  | adc val => rfl

/-- Every sequence completes and touches only the block (R155). -/
theorem perform_eq_next (is : List Instr) (s : State) : ∃ b, perform is s = .next (s.withBlock b) := by
  induction is generalizing s with
  | nil => exact ⟨s.blk, rfl⟩
  | cons i is ih =>
    obtain ⟨b, h⟩ := exec_eq_next i s
    obtain ⟨b', h'⟩ := ih (s.withBlock b)
    exact ⟨b', by simp only [perform, h, h']; rfl⟩

/-- One sequence after another. -/
theorem perform_append {xs : List Instr} {s t : State} (ys : List Instr) (h : perform xs s = .next t) :
    perform (xs ++ ys) s = perform ys t := by
  induction xs generalizing s with
  | nil => cases h; rfl
  | cons i is ih =>
    obtain ⟨b, hb⟩ := exec_eq_next i s
    simp only [List.cons_append, perform, hb] at h ⊢
    exact ih h

end Sys2Proof.Machine
end

