-- ==== Sys2Proof/Tests/Slice0.lean ====
section
/-! SUPPORT. Tests by `decide`. Expected values are those of 95_test_vectors.md 2.1 to 2.6, named by their rows there. The second
half shows, for every statement with hypotheses, states and operands that meet them, clause by clause at boundary values. -/

namespace Sys2Proof.Tests

open Sys2Proof.Machine Sys2Proof.Safety

/-! ### The operand ranges of the text form (R63, R64) -/

theorem test_wf_refuses_btn_8 : AsmLine.wellFormed (.btn 8) = false := by decide
theorem test_wf_refuses_adc_1024 : AsmLine.wellFormed (.adc 1024) = false := by decide
theorem test_wf_refuses_cmd_256 : AsmLine.wellFormed (.cmd 256) = false := by decide
theorem test_wf_refuses_line_count_8 : AsmLine.wellFormed (.line 8 0) = false := by decide
theorem test_wf_refuses_line_digits_65536 : AsmLine.wellFormed (.line 4 65536) = false := by decide
theorem test_wf_refuses_press_8 : AsmLine.wellFormed (.press 8) = false := by decide
theorem test_wf_refuses_hold_8 : AsmLine.wellFormed (.hold 8 1) = false := by decide
theorem test_wf_refuses_key_256 : AsmLine.wellFormed (.key (Char.ofNat 256)) = false := by decide
theorem test_wf_accepts_tops :
    AsmLine.wellFormed (.btn 7) = true ∧ AsmLine.wellFormed (.adc 1023) = true ∧ AsmLine.wellFormed (.cmd 255) = true ∧
      AsmLine.wellFormed (.line 7 65535) = true ∧ AsmLine.wellFormed (.press 7) = true := by decide
theorem test_assemble_refuses : assemble (.btn 8) = none := by decide

/-! ### Decoding (2.1) -/

theorem test_decode_nop : decodeWord 0b00000000000000000000000000000000 = .ok .nop := by decide
theorem test_decode_rst : decodeWord 0b00000001000000000000000000000000 = .ok .rst := by decide
theorem test_decode_ftick : decodeWord 0b00000010000000000000000000000000 = .ok .ftick := by decide
theorem test_decode_stick : decodeWord 0b00000011000000000000000000000000 = .ok .stick := by decide
theorem test_decode_tick : decodeWord 0b00000100000000000000000000000000 = .ok .tick := by decide
theorem test_decode_btn : decodeWord 0b00010000000000000000000000000101 = .ok (.btn 0b101) := by decide
theorem test_decode_adc : decodeWord 0b00010001000000000000001111111111 = .ok (.adc 1023) := by decide
theorem test_decode_cmd : decodeWord 0b00010010000000000000000001101001 = .ok (.cmd 0x69) := by decide
theorem test_decode_line : decodeWord 0b00010011000001000000000100110000 = .ok (.line 4 0x0130) := by decide
theorem test_decode_line_any_operands :
    decodeWord 0x13070000 = .ok (.line 7 0) ∧ decodeWord 0x1307FFFF = .ok (.line 7 0xFFFF) := by decide
theorem test_decode_refuses_reserved_bits :
    [0x00000001#32, 0x02000001, 0x10000008, 0x11000400, 0x12000100, 0x13080000].map decodeWord
      = [0x00#8, 0x02, 0x10, 0x11, 0x12, 0x13].map (fun op => .error (.reservedBits op)) := by decide
theorem test_decode_refuses_unassigned :
    [0x05000000#32, 0x0F000000, 0x14000000, 0xFFFFFFFF].map decodeWord
      = [0x05#8, 0x0F, 0x14, 0xFF].map (fun op => .error (.unassignedOpcode op)) := by decide
theorem test_table_word_line : decodeTableWord 32 0x13040130 = some (.line 4 0x0130) := by decide
theorem test_table_word_refused : decodeTableWord 32 0x13080000 = none := by decide
theorem test_stream_bytes :
    streamBytes [.rst, .ftick, .btn 0b110] = [0x01, 0x00, 0x00, 0x00, 0x02, 0x00, 0x00, 0x00, 0x10, 0x00, 0x00, 0x06] := by
  decide
theorem test_stream_of_ten_bytes_refused :
    decodeStream 0 [0x01, 0x00, 0x00, 0x00, 0x02, 0x00, 0x00, 0x00, 0x10, 0x00] = .error (.partialWord 2) := by decide

/-! ### The text form (2.1) -/

theorem test_press : (AsmLine.operations (.press 0b001)).map encode = [0x10000006] := by decide
theorem test_press_combo : (AsmLine.operations (.press 0b110)).map encode = [0x10000001] := by decide
theorem test_release : (AsmLine.operations .release).map encode = [0x10000007] := by decide
theorem test_hold :
    (AsmLine.operations (.hold 0b001 3)).map encode
      = [0x10000006, 0x03000000, 0x03000000, 0x03000000, 0x10000007, 0x03000000] := by decide
theorem test_enter_colon : lineOperands ['1', ':', '3', '0'] = (3, 0x0130) := by decide
theorem test_enter_stops_after_four : lineOperands ['1', '2', '3', '4', '5'] = (4, 0x1234) := by decide
theorem test_enter_empty : lineOperands [] = (0, 0) := by decide
theorem test_key : (AsmLine.operations (.key 'b')).map encode = [0x12000062] := by decide

/-! ### Operations on the state -/

/-- The state an operation leads to. -/
def after (i : Instr) (s : State) : State :=
  match exec i s with
  | .next t => t
  | .fault _ => s
  | .refused _ => s

/-- The reset state put into a state of the controller. -/
def inState (st : TimerState) (entered : Bool) : State :=
  { State.reset with blk.ctl.state := st, blk.ctl.entered := entered }

/-- A duration of the machine. -/
def dur (m : Fin 100) (s : Fin 60) : Duration Config.params := ⟨m, s⟩

/-- A hold counter of the machine. -/
def held (t : Fin 65536) : HoldCounter Config.params := ⟨decide (0 < t.val), t⟩

/-- A countdown under way, one slow tick before a second boundary. -/
def boundary (m : Fin 100) (sec : Fin 60) (paused : Bool) : State :=
  { inState .countdown true with
    blk.ctl.tickAcc := ⟨49, by decide⟩, blk.ctl.minutes := m, blk.ctl.seconds := sec, blk.ctl.paused := paused }

/-- A generator of the machine. -/
def gen (counter : Fin 5) (target : Fin 6) (step : RampDir) (rampCount : Fin 150) : Generator Config.params :=
  { counter := counter, target := target, step := step, pwmOut := false, rampCount := rampCount }

theorem test_holdStep_counts : holdStep (held 49) true 50 = ⟨held 50, .idle, 0⟩ := by decide
theorem test_holdStep_saturates : holdStep (held 65535) true 50 = ⟨held 65535, .idle, 0⟩ := by decide
theorem test_classify_edges :
    [0, 2, 3, 49, 50, 65535].map (fun t => classify t 50)
      = [.idle, .shortClick, .shortClick, .shortClick, .longPress, .longPress] := by decide
theorem test_qualifying_edges :
    [2, 3, 49, 50].map (fun t => qualifyingClick Config.params (classify t 50) t) = [false, true, true, false] := by decide
theorem test_decrement :
    [dur 1 30, dur 1 0, dur 99 0, dur 0 1, dur 0 0, dur 1 1].map (fun d => (d.decrement, d.decrement.complete))
      = [(dur 1 29, false), (dur 0 59, false), (dur 98 59, false), (dur 0 0, true), (dur 0 0, true), (dur 1 0, false)] := by
  decide
theorem test_parse_counts :
    [(4#3, 0x0130#16), (3, 0xF130), (2, 0x0045), (1, 0x0009), (0, 0), (7, 0x0130)].map
        (fun x => parseDuration Config.params x.1 x.2)
      = [dur 1 30, dur 1 30, dur 0 45, dur 0 10, dur 0 10, dur 0 10] := by decide
theorem test_parse_clamps :
    [(4#3, 0x9999#16), (4, 0x5959), (4, 0x0060), (3, 0x0199), (2, 0x0000), (4, 0x12A4)].map
        (fun x => parseDuration Config.params x.1 x.2)
      = [dur 99 59, dur 59 59, dur 0 59, dur 1 59, dur 0 0, dur 0 10] := by decide
theorem test_duty_edges :
    [0#10, 204, 205, 409, 410, 613, 614, 818, 819, 1022, 1023].map (fun a => (dutyOf Config.params (analogReading a)).val)
      = [0, 0, 1, 1, 2, 2, 3, 3, 4, 4, 5] := by decide
/-- R5: a record with a narrower analog range. -/
def narrowAdc : Params :=
  { Config.params with adcMax := 255, dutyMap := fun a => a * 5 / 255, dutyMap_le := fun a h => by simp only [Config.params]; omega }
theorem test_duty_narrow_adc : (dutyOf narrowAdc 255).val = 5 ∧ (dutyOf narrowAdc 254).val = 4 := by decide
theorem test_ramp_corner_clamps :
    (gen 2 5 .up 149).tick true = { gen 3 5 .down 0 with pwmOut := true } ∧
      (gen 2 0 .down 149).tick true = gen 3 0 .up 0 := by decide
theorem test_status_line :
    OutPorts.statusLine
      { pwmOut := false, statA := false, statB := false, state := 2, minutes := 1, seconds := 28, paused := false,
        extendedInfo := true, blinkIndicator := true, adcSample := 300, dutyTicks := 1, target := 0 }
      = "Time remaining: 01:28 | ADC = 300 | LED2 dutyTicks = 1 | LED2 mode = BLINK" := by decide

/-! One step of each operation, at most two each. -/

theorem test_nop_H1 : after .nop (boundary 1 0 true) = boundary 1 0 true := by decide

/-- H2. -/
theorem test_rst_H2 :
    after .rst { boundary 3 7 false with
        blk.gen := gen 3 4 .down 7, blk.slowDiv := ⟨11, by decide⟩, blk.pinBtn := 0b011, blk.pinAdc := 800 }
      = { State.reset with blk.pinBtn := 0b011, blk.pinAdc := 800 } := by decide

/-- 2.3, row 7: the output is computed from the old target. -/
theorem test_ftick_row7 :
    (after .ftick { State.reset with blk.gen := gen 2 0 .up 149 }).blk.gen = gen 3 1 .up 0 := by decide

/-- 2.3, the `TimeEntry` row: the ramp interval restarts. -/
theorem test_ftick_outside_waiting :
    (after .ftick { inState .timeEntry true with blk.gen := gen 1 0 .up 140 }).blk.gen = gen 2 0 .up 0 := by decide

/-- F10: the last second. -/
theorem test_stick_F10 :
    after .stick { boundary 0 1 false with blk.ctl.blinkPhase := true }
      = { inState .done false with blk.ctl.statA := true, blk.out.evStatus := true } := by decide

/-- F14: an abort skips the rest of the tick. -/
theorem test_stick_F14 :
    after .stick { inState .countdown true with
        blk.ctl.hold.pau := held 50, blk.ctl.minutes := 1, blk.ctl.seconds := 29, blk.ctl.cmdAvail := true,
        blk.ctl.adcSample := 100, blk.pinAdc := 900, blk.gen := gen 0 3 .up 0 }
      = { inState .done false with blk.ctl.adcSample := 100, blk.pinAdc := 900, blk.gen := gen 0 3 .up 0 } := by decide

/-- H3, its last `TICK`. -/
theorem test_tick_H3 :
    after .tick { State.reset with blk.slowDiv := ⟨19, by decide⟩, blk.gen := gen 4 0 .up 19 }
      = { inState .waiting true with blk.gen := gen 0 0 .up 20, blk.out.evWaiting := true } := by decide

/-- H4, its last `TICK`. -/
theorem test_tick_H4 :
    after .tick { State.reset with blk.slowDiv := ⟨18, by decide⟩, blk.gen := gen 3 0 .up 18 }
      = { State.reset with blk.slowDiv := ⟨19, by decide⟩, blk.gen := gen 4 0 .up 19 } := by decide

theorem test_btn_H5 : after (.btn 0b110) State.reset = { State.reset with blk.pinBtn := 0b110 } := by decide
theorem test_adc_H6 : after (.adc 1023) State.reset = { State.reset with blk.pinAdc := 1023 } := by decide

/-- H8: a second character overwrites the first. -/
theorem test_cmd_H8 :
    after (.cmd 0x62) { inState .countdown true with blk.ctl.cmdAvail := true, blk.ctl.cmdChar := 0x69 }
      = { inState .countdown true with blk.ctl.cmdAvail := true, blk.ctl.cmdChar := 0x62 } := by decide

theorem test_cmd_H9 : after (.cmd 0x69) (inState .done true) = inState .done true := by decide

/-- 2.4, `LINE` acceptance: after the prompt, and before it. -/
theorem test_line_accepted :
    after (.line 4 0x0130) { inState .timeEntry true with blk.ctl.hold.cmb := held 9 }
      = { inState .timeEntry true with
          blk.ctl.minutes := 1, blk.ctl.seconds := 30, blk.ctl.tePhase := .armed } := by decide

theorem test_line_dropped : after (.line 4 0x0130) (inState .timeEntry false) = inState .timeEntry false := by decide

/-! Sub-rules of the slow tick, on the block. -/

/-- F2. -/
theorem test_waitingBody_F2 :
    { inState .waiting true with blk.ctl.hold.pri := held 5 }.blk.waitingBody = (inState .timeEntry false).blk := by decide

/-- F8. -/
theorem test_timeEntryBody_F8 :
    { inState .timeEntry true with
        blk.ctl.tePhase := .armed, blk.ctl.minutes := 1, blk.ctl.seconds := 30, blk.ctl.hold.cmb := held 50
      }.blk.timeEntryBody = (inState .timeEntry false).blk := by decide

/-- F15: the pause decides the same tick's boundary. -/
theorem test_countdownBody_F15 :
    { boundary 1 30 false with blk.ctl.hold.pau := held 49 }.blk.countdownBody
      = { boundary 1 30 true with blk.ctl.tickAcc := ⟨0, by decide⟩ }.blk := by decide

/-- F16: BLINK from this tick on, in its dark phase. -/
theorem test_countdownBody_F16 :
    { inState .countdown true with
        blk.ctl.cmdAvail := true, blk.ctl.cmdChar := 0x62, blk.pinAdc := 1023 }.blk.countdownBody
      = { inState .countdown true with
          blk.ctl.cmdChar := 0x62, blk.ctl.blinkIndicator := true, blk.pinAdc := 1023, blk.ctl.adcSample := 1023,
          blk.ctl.dutyTicks := 5, blk.ctl.tickAcc := ⟨1, by decide⟩ }.blk := by decide

/-- F20: the control domain is reset, the target is kept. -/
theorem test_doneBody_F20 :
    { inState .done true with
        blk.ctl.doneCount := ⟨249, by decide⟩, blk.ctl.extendedInfo := true, blk.gen := gen 0 1 .up 0, blk.pinAdc := 1023
      }.blk.doneBody
      = { State.reset with blk.gen := gen 0 5 .up 0, blk.pinAdc := 1023 }.blk := by decide

/-! The step. -/

theorem test_step_runs_the_placed_word :
    step (State.reset.withFetchWord 32 0x10000005)
      = .next { State.reset with blk.pinBtn := 0b101, wordIndex := 1 } := by rfl

theorem test_step_at_reset : step State.reset = .refused .streamEnd := by rfl

/-! ### Witnesses -/

theorem witness_EncodeInvertsDecode : decodeWord 0x1307FFFF = .ok (.line 7 0xFFFF) := by decide

theorem witness_RejectionNamesItsReason :
    (∃ op, decodeWord 0x05000000 = .error (.unassignedOpcode op)) ∧
      (∃ op, decodeWord 0x14000000 = .error (.unassignedOpcode op)) ∧
      (∃ op, decodeWord 0x13080000 = .error (.reservedBits op)) :=
  ⟨⟨0x05, by decide⟩, ⟨0x14, by decide⟩, ⟨0x13, by decide⟩⟩

theorem witness_NoWordMatchesTwoRows :
    ∃ r ∈ opcodeTable, r.matches 0x13040130 = true := by decide

theorem witness_StreamDecodingInvertsStreamEncoding :
    [0x04, 0x00, 0x00, 0x00] = streamBytes [.tick] ∧ decodeStream 3 [0x04, 0x00, 0x00, 0x00] = .ok [.tick] := by decide

theorem witness_EnteredDigitsArePositional :
    ∀ ch ∈ ([] : List Char) ++ [':'] ++ ['a', ' '] ++ [], ch.isDigit = false := by
  intro ch h
  simp only [List.nil_append, List.append_nil, List.cons_append, List.mem_cons, List.not_mem_nil, or_false] at h
  rcases h with rfl | rfl | rfl <;> rfl

/-- A state with a stream. -/
def fed (bytes : List Byte) : State := { State.reset with stream := bytes }

theorem witness_StepPerformsTheNextWord :
    (fed [0x03, 0x00, 0x00, 0x00, 0xFF]).stream = wordBytes (encode .stick) ++ [0xFF] := by decide

theorem witness_StepStopsOnlyWhereNoOperationIs_invalid :
    (fed [0x05, 0x00, 0x00, 0x00]).stream = wordBytes 0x05000000 ++ [] ∧
      decodeWord 0x05000000 = .error (.unassignedOpcode 0x05) := by decide

theorem witness_StepStopsOnlyWhereNoOperationIs_partial :
    (0 < (fed [0x03]).stream.length ∧ (fed [0x03]).stream.length < 4) ∧
      (0 < (fed [0x03, 0, 0]).stream.length ∧ (fed [0x03, 0, 0]).stream.length < 4) := by decide

theorem witness_StepStopsOnlyWhereNoOperationIs_end :
    State.reset.stream = [] ∧ step State.reset = .refused .streamEnd := ⟨by decide, rfl⟩

theorem witness_LoadAcceptsExactlyValidStreams :
    (∃ ops, [0x03, 0, 0, 0] = streamBytes ops) ∧ (∃ t, State.reset.load [0x03, 0, 0, 0] = .next t) :=
  ⟨⟨[.stick], by decide⟩, ⟨fed [0x03, 0, 0, 0], by rfl⟩⟩

theorem witness_EveryProgramRunsToItsEnd : (fed [0x03, 0, 0, 0, 0x02, 0, 0, 0]).stream = streamBytes [.stick, .ftick] := by
  decide

theorem witness_NopChangesNothing : [Instr.stick] ≠ [] ∧ ∃ t, perform [.stick] State.reset = .next t :=
  ⟨by decide, _, rfl⟩

theorem witness_CmdLatchesInCountdownOnly :
    ((inState .countdown false).blk.ctl.state = .countdown ∧ (inState .countdown false).blk.ctl.entered = false) ∧
      (inState .timeEntry true).blk.ctl.state ≠ .countdown := by decide

theorem witness_TickIsFtickThenStick :
    ({ State.reset with blk.slowDiv := ⟨19, by decide⟩ } : State).blk.slowDiv.val = 19 ∧
      ({ State.reset with blk.slowDiv := ⟨18, by decide⟩ } : State).blk.slowDiv.val ≠ 19 := by decide

/-- A state of `Waiting` whose next `FTICK` performs a ramp step. -/
def ramping : State := { inState .waiting true with blk.gen := gen 2 3 .up 149 }

theorem witness_TickWritesTargetAtMostOnce :
    ∃ u t, exec .ftick ramping = .next u ∧ exec .tick ramping = .next t ∧ ramping.blk.ctl.state = .waiting ∧
      ¬(State.reset.blk.ctl.state = .waiting ∧ State.reset.blk.gen.rampCount.val = 149) :=
  ⟨after .ftick ramping, after .tick ramping, rfl, rfl, rfl, by decide⟩

theorem witness_FtickRampsInWaitingOnly :
    (ramping.blk.ctl.state = .waiting ∧ ramping.blk.gen.rampCount.val = 149) ∧
      (State.reset.blk.ctl.state = .waiting ∧ State.reset.blk.gen.rampCount.val ≠ 149) ∧
      (inState .done true).blk.ctl.state ≠ .waiting := by decide

theorem witness_RampReversesOnlyAtTheBounds :
    (gen 0 4 .up 149).rampStep.step ≠ (gen 0 4 .up 149).step ∧
      (gen 0 1 .down 149).rampStep.step ≠ (gen 0 1 .down 149).step := by decide

/-- A countdown with a duty target, at the start of a period. -/
def dimmed : State := { inState .countdown true with blk.gen := gen 0 2 .up 0 }

theorem witness_DutyOverOnePeriod :
    (∀ u ∈ trace (List.replicate 4 .ftick) dimmed, u.blk.gen.target = dimmed.blk.gen.target) ∧
      dimmed.blk.gen.counter.val = 0 := by decide

theorem witness_MidPeriodWriteStaysBetween :
    dimmed.blk.ctl.state ≠ .waiting ∧ dimmed.blk.gen.counter.val = 0 ∧ 2 ≤ 5 ∧
      ∃ u, perform (List.replicate 2 .ftick) dimmed = .next u :=
  ⟨by decide, by decide, by decide, _, rfl⟩

theorem witness_ClassificationOfAHold : 1 ≤ 50 ∧ 0 < 49 ∧ 49 < 50 ∧ 50 ≤ 50 := by decide

theorem witness_DecrementBorrows :
    (dur 0 1).seconds.val ≠ 0 ∧ ((dur 1 0).seconds.val = 0 ∧ (dur 1 0).minutes.val ≠ 0) ∧
      ((dur 0 0).seconds.val = 0 ∧ (dur 0 0).minutes.val = 0) ∧ (dur 0 59).seconds.val ≤ 59 := by decide

theorem witness_DurationCompletesOnTime :
    (1 ≤ 1 ∧ 1 ≤ max 1 (60 * (dur 0 0).minutes.val + (dur 0 0).seconds.val)) ∧
      (1 ≤ 61 ∧ 61 ≤ max 1 (60 * (dur 1 1).minutes.val + (dur 1 1).seconds.val)) := by decide

/-- The nibbles of the digits `0x9A09`: the third is no digit. -/
theorem witness_TimeEntryIsParsedByPosition :
    ∃ d : Nat → Nat, (∀ k, d k = (0x9A09#16).toNat / 16 ^ k % 16) ∧ d 3 ≤ 9 ∧ 9 < d 2 ∧ d 1 ≤ 9 ∧ d 0 ≤ 9 :=
  ⟨_, fun _ => rfl, by decide⟩

theorem witness_TimeEntryIsParsedByPosition_digits :
    ∃ d : Nat → Nat, (∀ k, d k = (0x9999#16).toNat / 16 ^ k % 16) ∧ d 3 ≤ 9 ∧ d 2 ≤ 9 ∧ d 1 ≤ 9 ∧ d 0 ≤ 9 :=
  ⟨_, fun _ => rfl, by decide⟩

/-- A `TimeEntry` with a duration armed. -/
def armed (cmb : Fin 65536) (pins : BitVec 3) : State :=
  { inState .timeEntry true with blk.ctl.tePhase := .armed, blk.ctl.hold.cmb := held cmb, blk.pinBtn := pins }

theorem witness_LineIsAcceptedAfterThePrompt :
    ((inState .timeEntry true).blk.ctl.state = .timeEntry ∧ (inState .timeEntry true).blk.ctl.tePhase = .prompt ∧
        (inState .timeEntry true).blk.ctl.entered = true) ∧
      ¬((armed 0 0).blk.ctl.state = .timeEntry ∧ (armed 0 0).blk.ctl.tePhase = .prompt ∧
        (armed 0 0).blk.ctl.entered = true) := by decide

theorem witness_WaitingEntryAsksForTheBanner :
    State.reset.blk.ctl.state = .waiting ∧ State.reset.blk.ctl.entered = false := by decide

/-- A `Waiting` that watched PB1. -/
def watching (pri : Fin 65536) (pins : BitVec 3) : State :=
  { inState .waiting true with blk.ctl.hold.pri := held pri, blk.pinBtn := pins }

theorem witness_WaitingWatchesThePrimaryButton :
    (watching 49 7).blk.ctl.state = .waiting ∧ (watching 49 7).blk.ctl.entered = true ∧
      (watching 0 6).blk.pinBtn.getLsbD 0 = false ∧
      ((watching 3 7).blk.pinBtn.getLsbD 0 = true ∧ 3 ≤ (watching 3 7).blk.ctl.hold.pri.ticks.val ∧
        (watching 49 7).blk.ctl.hold.pri.ticks.val < 50) ∧
      ((watching 2 7).blk.ctl.hold.pri.ticks.val < 3 ∧ 50 ≤ (watching 50 7).blk.ctl.hold.pri.ticks.val) := by decide

theorem witness_ClickOfEveryLength :
    State.reset.blk.ctl.state = .waiting ∧ State.reset.blk.ctl.hold.pri = ⟨false, 0⟩ := by decide

theorem witness_TimeEntryEntryPrompts :
    (inState .timeEntry false).blk.ctl.state = .timeEntry ∧ (inState .timeEntry false).blk.ctl.entered = false := by decide

theorem witness_TimeEntryWatchesTheCombo :
    ((inState .timeEntry true).blk.ctl.state = .timeEntry ∧ (inState .timeEntry true).blk.ctl.entered = true ∧
        (inState .timeEntry true).blk.ctl.tePhase = .prompt) ∧
      ((armed 0 1).blk.ctl.tePhase = .armed ∧ ComboPressed (armed 0 1)) ∧
      (¬ComboPressed (armed 0 5) ∧ (armed 0 5).blk.ctl.hold.cmb.ticks.val = 0) ∧
      (¬ComboPressed (armed 1 3) ∧ 0 < (armed 1 3).blk.ctl.hold.cmb.ticks.val ∧
        (armed 49 7).blk.ctl.hold.cmb.ticks.val < 50) ∧
      (¬ComboPressed (armed 50 7) ∧ 50 ≤ (armed 50 7).blk.ctl.hold.cmb.ticks.val) := by decide

/-- The prompted wait with every operation but `RST` and `LINE`. -/
theorem witness_TimeEntryWaitsForEver_prompt :
    (inState .timeEntry true).blk.ctl.state = .timeEntry ∧ (inState .timeEntry true).blk.ctl.entered = true ∧
      (inState .timeEntry true).blk.ctl.tePhase = .prompt ∧
      .rst ∉ [Instr.stick, .ftick, .tick, .btn 1, .adc 5, .cmd 0x69, .nop] ∧
      ∀ n dg, .line n dg ∉ [Instr.stick, .ftick, .tick, .btn 1, .adc 5, .cmd 0x69, .nop] :=
  ⟨by decide, by decide, by decide, by decide, by simp⟩

/-- The armed wait with one combo button down. -/
theorem witness_TimeEntryWaitsForEver_armed :
    (armed 0 5).blk.ctl.state = .timeEntry ∧ (armed 0 5).blk.ctl.entered = true ∧
      .rst ∉ [Instr.stick, .btn 3, .stick, .line 2 0x0045] ∧ (armed 0 5).blk.ctl.tePhase = .armed ∧
      (armed 0 5).blk.ctl.hold.cmb = ⟨false, 0⟩ ∧ ¬ComboPressed (armed 0 5) ∧
      ∀ lv : BitVec 3, .btn lv ∈ [Instr.stick, .btn 3, .stick, .line 2 0x0045] →
        lv.getLsbD 1 = true ∨ lv.getLsbD 2 = true := by decide

theorem witness_CountdownEntryClearsTheSession :
    (inState .countdown false).blk.ctl.state = .countdown ∧ (inState .countdown false).blk.ctl.entered = false := by decide

/-- A countdown under way with PB3 watched. -/
def counting (pau : Fin 65536) (pins : BitVec 3) (m : Fin 100) (sec : Fin 60) : State :=
  { boundary m sec false with blk.ctl.hold.pau := held pau, blk.pinBtn := pins }

/-- Meets the hypotheses of `LongPressAborts`. -/
theorem witness_LongPressAborts :
    (counting 50 4 1 0).blk.ctl.state = .countdown ∧ (counting 50 4 1 0).blk.ctl.entered = true ∧
      Aborts (counting 50 4 1 0) := by decide

/-- Meets the hypotheses of `CountdownServesThePauseButton`, `CountdownDrainsOneCharacter`, `CountdownProgramsTheTarget`,
`CountdownCountsTheSecond` and `CountdownTickFrame`: held however long, released after 49, not pressed. -/
theorem witness_CountdownTicks :
    (counting 60 3 1 0).blk.ctl.state = .countdown ∧ (counting 60 3 1 0).blk.ctl.entered = true ∧
      ¬Aborts (counting 60 3 1 0) ∧ ¬Aborts (counting 49 7 1 0) ∧ ¬Aborts (counting 0 7 1 0) := by decide

theorem witness_CountdownServesThePauseButton_clauses :
    (¬Aborts (counting 0 7 0 1) ∧ Completes (counting 0 7 0 1)) ∧
      (¬Completes (counting 0 7 0 2) ∧ PauseReleased (counting 0 7 0 2)) ∧
      (¬Completes (counting 0 3 1 0) ∧ ¬PauseReleased (counting 0 3 1 0)) := by decide

theorem witness_CountdownCountsTheSecond_clauses :
    (¬Aborts (counting 2 7 1 0) ∧ CountsSecond (counting 2 7 1 0)) ∧
      (¬Aborts (counting 3 7 1 0) ∧ ¬CountsSecond (counting 3 7 1 0)) ∧
      ¬CountsSecond (inState .countdown true) ∧ Completes (counting 0 7 0 0) := by decide

/-- One slow tick before a second boundary, paused. -/
theorem witness_PauseFreezesTheDuration :
    (boundary 0 5 true).blk.ctl.state = .countdown ∧ (boundary 0 5 true).blk.ctl.entered = true ∧
      (boundary 0 5 true).blk.ctl.paused = true ∧ PauseReleased (boundary 0 5 true) ∧
      (boundary 0 5 true).blk.ctl.hold.pau = ⟨false, 0⟩ := by decide

/-- At the last tick of a countdown from `(0, 0)`. -/
theorem witness_CountdownReachesDoneOnTime :
    (inState .countdown false).blk.ctl.state = .countdown ∧ (inState .countdown false).blk.ctl.entered = false ∧
      PauseReleased (inState .countdown false) ∧ (inState .countdown false).blk.ctl.hold.pau = ⟨false, 0⟩ ∧
      50 ≤ 50 * max 1 (60 * (inState .countdown false).blk.ctl.minutes.val
        + (inState .countdown false).blk.ctl.seconds.val) := by decide

theorem witness_DoneEntryForcesSolid :
    (inState .done false).blk.ctl.state = .done ∧ (inState .done false).blk.ctl.entered = false := by decide

/-- A `Done` under way. -/
def finishing (n : Fin 250) : State := { inState .done true with blk.ctl.doneCount := n }

theorem witness_DoneTickCountsAndSwaps :
    (finishing 249).blk.ctl.state = .done ∧ (finishing 249).blk.ctl.entered = true ∧
      (finishing 249).blk.ctl.doneCount.val = 249 ∧ (finishing 248).blk.ctl.doneCount.val ≠ 249 := by decide

theorem witness_DoneLasts250SlowTicks :
    (inState .done false).blk.ctl.state = .done ∧ (inState .done false).blk.ctl.entered = false ∧
      (1 ≤ 1 ∧ 1 ≤ 250) ∧ (1 ≤ 249 ∧ 249 < 250) ∧ (1 ≤ 250 ∧ 250 ≤ 250) := by decide

/-- Meets the hypothesis of `OnlyTheListedTransitions`, `EachFieldHasItsWriters` and `AtMostOneEventAnOperation`, with a
transition that takes place. -/
theorem witness_exec_answers :
    exec .stick (counting 50 4 1 0) = .next (after .stick (counting 50 4 1 0)) ∧
      (after .stick (counting 50 4 1 0)).blk.ctl.state = .done := ⟨rfl, by decide⟩

theorem witness_DomainsShareTwoFields :
    (counting 0 7 1 0).blk.ctl = { counting 0 7 1 0 with blk.gen := gen 3 0 .down 4 }.blk.ctl ∧
      (counting 0 7 1 0).blk.gen.target = { counting 0 7 1 0 with blk.gen := gen 3 0 .down 4 }.blk.gen.target ∧
      (counting 0 7 1 0).blk.gen = (dimmed.withBlock (inState .countdown false).blk).blk.gen ∧
      (counting 0 7 1 0).blk.ctl.state = (dimmed.withBlock (inState .countdown false).blk).blk.ctl.state := by decide

/-- A good state whose step leaves `Countdown`. -/
theorem witness_EveryStepKeepsTheStateGood :
    Good (fed [0x03, 0, 0, 0]) ∧ Good { counting 50 4 1 0 with stream := [0x03, 0, 0, 0] } ∧
      ∃ t, step { counting 50 4 1 0 with stream := [0x03, 0, 0, 0] } = .next t := ⟨by decide, by decide, _, rfl⟩

theorem witness_StatusLineShowsTheTime :
    1023 = { inState .countdown true with blk.ctl.adcSample := 1023, blk.ctl.extendedInfo := true }.blk.ctl.adcSample.val := by
  decide

/-- A clock with every event, and one with a reset. -/
def busyClock (rst : Bool) : InPorts :=
  { rst := rst, ftickEn := true, stickEn := true, btnN := 7, adc := 9, cmd := some 0x69, line := some (4, 0x0130) }

theorem witness_ClockPerformsEventsInOrder :
    (busyClock true).rst = true ∧ (busyClock false).rst = false ∧
      (busyClock false).operations .derived
        = [.btn 7, .adc 9, .tick, .stick, .cmd 0x69, .line 4 0x0130] := by decide

end Sys2Proof.Tests
end

section
/-! Rules about the shared operations on the block, as equations case by case: the proofs about single operations rewrite with
these instead of unfolding the operations. -/

namespace Sys2Proof.Machine

open Sys2Proof.Safety

variable {p : Params}

/-- What a tick body finds: the block as it is, where its entry action was performed, and else what the action leaves. -/
theorem Block.enter_induction {b : Block p} {action : Block p → Block p} {P : Block p → Prop}
    (hkeep : b.ctl.entered = true → P b) (hact : b.ctl.entered = false → P (action b)) : P (b.enter action) := by
  cases h : b.ctl.entered
  · rw [Block.enter_of_not_entered h]; exact hact h
  · rw [Block.enter_of_entered h]; exact hkeep h

/-- The tick body of `Waiting` writes the control domain alone (R117). -/
theorem Block.waitingBody_writes_ctl (b : Block p) : b.waitingBody = { b with ctl := b.waitingBody.ctl } := by
  unfold Block.waitingBody
  simp only
  split <;> rfl

/-- So does the tick body of `TimeEntry` (R119). -/
theorem Block.timeEntryBody_writes_ctl (b : Block p) : b.timeEntryBody = { b with ctl := b.timeEntryBody.ctl } := by
  unfold Block.timeEntryBody
  split
  · rfl
  · simp only
    split <;> rfl

/-- A clear hold counter is inactive. -/
theorem holdConsistent_of_eq_zero {hc : HoldCounter p} (h : hc = HoldCounter.zero p) : HoldConsistent hc := h ▸ rfl

/-- An asserted sample leaves a counter that is active and not 0, because `HOLD_MAX` is at least 1 (R5). -/
theorem holdConsistent_satTick (t : Fin (p.holdMax + 1)) : HoldConsistent (⟨true, satTick t⟩ : HoldCounter p) := by
  have hpos := p.comboLong_pos
  have hmax := p.comboLong_le_holdMax
  have : 0 < min (t.val + 1) p.holdMax := by omega
  simpa [HoldConsistent] using this

/-- Everything that step (1) of `Countdown` can do to the block: abort, or go on with a consistent count of the button and a
pause flag (R121). -/
theorem Block.countdownButton_cases (b : Block p) :
    b.countdownButton = .aborted { b with
        ctl.minutes := 0, ctl.seconds := 0, ctl.state := .done, ctl.entered := false, ctl.hold := HoldFile.zero p,
        ctl.cmdAvail := false } ∨
      ∃ (hc : HoldCounter p) (paused : Bool), HoldConsistent hc ∧
        b.countdownButton = .goesOn { b with ctl.hold.pau := hc, ctl.paused := paused } := by
  cases hp : pressed b.pinBtn p.pauseBtn
  case true => exact .inr ⟨_, _, holdConsistent_satTick _, Block.countdownButton_pressed hp⟩
  case false =>
    by_cases hl : p.longPressTicks ≤ b.ctl.hold.pau.ticks.val
    · exact .inl (Block.countdownButton_abort hp hl)
    · by_cases hs : p.settleTicks ≤ b.ctl.hold.pau.ticks.val
      · exact .inr ⟨_, _, rfl, Block.countdownButton_click hp hs (Nat.lt_of_not_le hl)⟩
      · exact .inr ⟨_, _, rfl, Block.countdownButton_other hp (Nat.lt_of_not_le hs)⟩

theorem Block.countdownCommand_cmdAvail (b : Block p) : b.countdownCommand.ctl.cmdAvail = false := by
  rw [Block.countdownCommand_eq]

/-- Every `SLOW_DIV`-th derived tick is a slow tick on the block that the fast tick left (R142). -/
theorem Block.derivedTick_slow {b : Block p} (h : atTop b.slowDiv = true) :
    b.derivedTick = { b.fastTick with slowDiv := wrapNext b.slowDiv }.slowTick := by
  simp [Block.derivedTick, h]

theorem Block.derivedTick_fast {b : Block p} (h : atTop b.slowDiv = false) :
    b.derivedTick = { b.fastTick with slowDiv := wrapNext b.slowDiv } := by
  simp [Block.derivedTick, h]

theorem Block.command_latches {b : Block p} (ch : Byte) (h : b.ctl.state = .countdown) :
    b.command ch = { b with ctl.cmdChar := ch, ctl.cmdAvail := true, out := Out.none } := by
  simp [Block.command, h, Block.quiet]

theorem Block.command_drops {b : Block p} (ch : Byte) (h : b.ctl.state ≠ .countdown) : b.command ch = b.quiet := by
  simp [Block.command, h]

theorem Control.acceptsLine_iff (c : Control p) :
    c.acceptsLine = true ↔ c.state = .timeEntry ∧ c.tePhase = .prompt ∧ c.entered = true := by
  simp [Control.acceptsLine, and_assoc]

theorem Block.line_accepted {b : Block p} (n : BitVec 3) (dg : BitVec 16) (h : b.ctl.acceptsLine = true) :
    b.line n dg = { b with
      ctl.minutes := (parseDuration p n dg).minutes, ctl.seconds := (parseDuration p n dg).seconds,
      ctl.tePhase := .armed, ctl.hold.cmb := HoldCounter.zero p, out := Out.none } := by
  simp only [Block.line, h, if_true]
  rfl

theorem Block.line_dropped {b : Block p} (n : BitVec 3) (dg : BitVec 16) (h : b.ctl.acceptsLine = false) :
    b.line n dg = b.quiet := by
  simp [Block.line, h]

/-- `CMD` writes the pending character (R145). -/
theorem Block.command_frame (b : Block p) (ch : Byte) :
    ∃ (avail : Bool) (char : Byte),
      b.command ch = { b with ctl.cmdAvail := avail, ctl.cmdChar := char, out := Out.none } := by
  by_cases hs : b.ctl.state = .countdown
  · exact ⟨_, _, Block.command_latches ch hs⟩
  · exact ⟨_, _, Block.command_drops ch hs⟩

/-- `LINE` writes the duration, the phase and the hold counters (R104). -/
theorem Block.line_frame (b : Block p) (n : BitVec 3) (dg : BitVec 16) :
    ∃ (d : Duration p) (phase : TePhase) (hold : HoldFile p),
      b.line n dg = { b with
        ctl.minutes := d.minutes, ctl.seconds := d.seconds, ctl.tePhase := phase, ctl.hold := hold,
        out := Out.none } := by
  cases ha : b.ctl.acceptsLine
  · exact ⟨b.ctl.duration, _, _, Block.line_dropped n dg ha⟩
  · exact ⟨_, _, _, Block.line_accepted n dg ha⟩

end Sys2Proof.Machine
end

section
/-! Every step keeps the relations between fields (10_state.md R32). `ControlGood` speaks of all states of the controller at
once; here it is first said for each state by itself, and each sub-rule of the slow tick then leads from one of these forms to
another. -/

namespace Sys2Proof.Machine

open Sys2Proof.Safety

variable {p : Params}

/-! ### What a good state is, state by state -/

/-- A good control domain in `Waiting`: only the primary button is watched. -/
structure WaitingGood (c : Control p) : Prop where
  state : c.state = .waiting
  pri : HoldConsistent c.hold.pri
  pau : c.hold.pau = HoldCounter.zero p
  cmb : c.hold.cmb = HoldCounter.zero p
  tePhase : c.tePhase = .prompt
  cmdAvail : c.cmdAvail = false
  dark : c.statA = false ∧ c.statB = false
  fresh : c.extendedInfo = false ∧ c.blinkIndicator = false

/-- A good control domain in `TimeEntry`: only the combo is watched, and only in phase `Armed`, which follows the prompt. -/
structure TimeEntryGood (c : Control p) : Prop where
  state : c.state = .timeEntry
  pri : c.hold.pri = HoldCounter.zero p
  pau : c.hold.pau = HoldCounter.zero p
  cmb : HoldConsistent c.hold.cmb
  cmbArmed : c.hold.cmb = HoldCounter.zero p ∨ c.tePhase = .armed
  prompted : c.tePhase = .prompt ∨ c.entered = true
  cmdAvail : c.cmdAvail = false
  dark : c.statA = false ∧ c.statB = false
  fresh : c.extendedInfo = false ∧ c.blinkIndicator = false

/-- A good control domain in `Countdown`: only the abort/pause button is watched. -/
structure CountdownGood (c : Control p) : Prop where
  state : c.state = .countdown
  pri : c.hold.pri = HoldCounter.zero p
  pau : HoldConsistent c.hold.pau
  cmb : c.hold.cmb = HoldCounter.zero p
  tePhase : c.tePhase = .prompt
  fresh : c.entered = false → c.extendedInfo = false ∧ c.blinkIndicator = false

/-- A good control domain in `Done`: no button is watched. -/
structure DoneGood (c : Control p) : Prop where
  state : c.state = .done
  pri : c.hold.pri = HoldCounter.zero p
  pau : c.hold.pau = HoldCounter.zero p
  cmb : c.hold.cmb = HoldCounter.zero p
  tePhase : c.tePhase = .prompt
  cmdAvail : c.cmdAvail = false
  pair : c.entered = true → c.statA ≠ c.statB ∧ c.blinkIndicator = false

theorem waitingGood_iff {c : Control p} : WaitingGood c ↔ c.state = .waiting ∧ ControlGood c := by
  constructor
  · intro h
    exact ⟨h.state, ⟨h.pri, holdConsistent_of_eq_zero h.pau, holdConsistent_of_eq_zero h.cmb⟩,
      ⟨.inr h.state, .inl h.pau, .inl h.cmb⟩, .inl h.tePhase, .inl h.cmdAvail, fun hd => by simp [h.state] at hd,
      fun _ => h.dark, fun _ => h.fresh⟩
  · rintro ⟨hs, ⟨hcons, -, -⟩, ⟨-, hpau, hcmb⟩, harmed, hchar, -, hdark, hfresh⟩
    exact
      { state := hs
        pri := hcons
        pau := hpau.resolve_right (by simp [hs])
        cmb := hcmb.resolve_right (by simp [hs])
        tePhase := harmed.resolve_right (by simp [hs])
        cmdAvail := hchar.resolve_right (by simp [hs])
        dark := hdark (.inl hs)
        fresh := hfresh (.inl hs) }

theorem timeEntryGood_iff {c : Control p} : TimeEntryGood c ↔ c.state = .timeEntry ∧ ControlGood c := by
  constructor
  · intro h
    exact ⟨h.state, ⟨holdConsistent_of_eq_zero h.pri, holdConsistent_of_eq_zero h.pau, h.cmb⟩,
      ⟨.inl h.pri, .inl h.pau, h.cmbArmed.imp_right fun ha => ⟨h.state, ha⟩⟩,
      h.prompted.imp_right fun he => ⟨h.state, he⟩, .inl h.cmdAvail, fun hd => by simp [h.state] at hd,
      fun _ => h.dark, fun _ => h.fresh⟩
  · rintro ⟨hs, ⟨-, -, hcons⟩, ⟨hpri, hpau, hcmb⟩, harmed, hchar, -, hdark, hfresh⟩
    exact
      { state := hs
        pri := hpri.resolve_right (by simp [hs])
        pau := hpau.resolve_right (by simp [hs])
        cmb := hcons
        cmbArmed := hcmb.imp_right And.right
        prompted := harmed.imp_right And.right
        cmdAvail := hchar.resolve_right (by simp [hs])
        dark := hdark (.inr hs)
        fresh := hfresh (.inr (.inl hs)) }

theorem countdownGood_iff {c : Control p} : CountdownGood c ↔ c.state = .countdown ∧ ControlGood c := by
  constructor
  · intro h
    exact ⟨h.state, ⟨holdConsistent_of_eq_zero h.pri, h.pau, holdConsistent_of_eq_zero h.cmb⟩,
      ⟨.inl h.pri, .inr h.state, .inl h.cmb⟩, .inl h.tePhase, .inr h.state, fun hd => by simp [h.state] at hd,
      fun hw => by simp [h.state] at hw, fun hu => h.fresh (by simpa [h.state] using hu)⟩
  · rintro ⟨hs, ⟨-, hcons, -⟩, ⟨hpri, -, hcmb⟩, harmed, -, -, -, hfresh⟩
    exact
      { state := hs
        pri := hpri.resolve_right (by simp [hs])
        pau := hcons
        cmb := hcmb.resolve_right (by simp [hs])
        tePhase := harmed.resolve_right (by simp [hs])
        fresh := fun he => hfresh (.inr (.inr ⟨hs, he⟩)) }

theorem doneGood_iff {c : Control p} : DoneGood c ↔ c.state = .done ∧ ControlGood c := by
  constructor
  · intro h
    exact ⟨h.state,
      ⟨holdConsistent_of_eq_zero h.pri, holdConsistent_of_eq_zero h.pau, holdConsistent_of_eq_zero h.cmb⟩,
      ⟨.inl h.pri, .inl h.pau, .inl h.cmb⟩, .inl h.tePhase, .inl h.cmdAvail, fun hd => h.pair hd.2,
      fun hw => by simp [h.state] at hw, fun hu => by simp [h.state] at hu⟩
  · rintro ⟨hs, -, ⟨hpri, hpau, hcmb⟩, harmed, hchar, hpair, -, -⟩
    exact
      { state := hs
        pri := hpri.resolve_right (by simp [hs])
        pau := hpau.resolve_right (by simp [hs])
        cmb := hcmb.resolve_right (by simp [hs])
        tePhase := harmed.resolve_right (by simp [hs])
        cmdAvail := hchar.resolve_right (by simp [hs])
        pair := fun he => hpair ⟨hs, he⟩ }

theorem WaitingGood.good {c : Control p} (h : WaitingGood c) : ControlGood c := (waitingGood_iff.1 h).2
theorem TimeEntryGood.good {c : Control p} (h : TimeEntryGood c) : ControlGood c := (timeEntryGood_iff.1 h).2
theorem CountdownGood.good {c : Control p} (h : CountdownGood c) : ControlGood c := (countdownGood_iff.1 h).2
theorem DoneGood.good {c : Control p} (h : DoneGood c) : ControlGood c := (doneGood_iff.1 h).2

theorem controlGood_reset : ControlGood (Control.reset p) :=
  WaitingGood.good ⟨rfl, rfl, rfl, rfl, rfl, rfl, ⟨rfl, rfl⟩, ⟨rfl, rfl⟩⟩

/-! ### `Waiting` -/

theorem Block.waitingEntry_good {b : Block p} (h : WaitingGood b.ctl) : WaitingGood b.waitingEntry.ctl := { h with }

theorem Block.waitingBody_good {b : Block p} (h : WaitingGood b.ctl) : ControlGood b.waitingBody.ctl := by
  cases hp : pressed b.pinBtn p.primaryBtn
  case true =>
    rw [Block.waitingBody_pressed hp]
    exact WaitingGood.good { h with pri := holdConsistent_satTick _ }
  case false =>
    by_cases hq : p.settleTicks ≤ b.ctl.hold.pri.ticks.val ∧ b.ctl.hold.pri.ticks.val < p.longPressTicks
    · rw [Block.waitingBody_click hp hq.1 hq.2]
      exact TimeEntryGood.good
        { h with state := rfl, pri := rfl, pau := rfl, cmb := rfl, cmbArmed := .inl rfl, prompted := .inl rfl }
    · rw [Block.waitingBody_other hp hq]
      exact WaitingGood.good { h with pri := rfl }

/-! ### `TimeEntry` -/

/-- Before it is entered, `TimeEntry` has no duration armed, so its combo counter is clear. -/
theorem Block.timeEntryEntry_good {b : Block p} (h : TimeEntryGood b.ctl) (he : b.ctl.entered = false) :
    TimeEntryGood b.timeEntryEntry.ctl := by
  have hprompt : b.ctl.tePhase = .prompt := h.prompted.resolve_right (by simp [he])
  have hclear : b.ctl.hold.cmb = HoldCounter.zero p := h.cmbArmed.resolve_right (by simp [hprompt])
  exact { h with cmbArmed := .inl hclear, prompted := .inl rfl, dark := ⟨rfl, rfl⟩ }

/-- In phase `Armed` the combo counter may hold anything consistent; both ways out of it clear the counters and disarm. -/
theorem Block.timeEntryBody_good {b : Block p} (h : TimeEntryGood b.ctl) (he : b.ctl.entered = true) :
    ControlGood b.timeEntryBody.ctl := by
  cases ha : b.ctl.tePhase
  case prompt =>
    rw [Block.timeEntryBody_prompt ha]
    exact h.good
  case armed =>
    cases hp : comboAsserted p b.pinBtn
    case true =>
      rw [Block.timeEntryBody_pressed ha hp]
      exact TimeEntryGood.good { h with cmb := holdConsistent_satTick _, cmbArmed := .inr ha, prompted := .inr he }
    case false =>
      by_cases h0 : b.ctl.hold.cmb.ticks.val = 0
      · rw [Block.timeEntryBody_idle ha hp h0]
        exact TimeEntryGood.good { h with cmb := rfl, cmbArmed := .inl rfl, prompted := .inr he }
      · by_cases hl : b.ctl.hold.cmb.ticks.val < p.comboLongTicks
        · rw [Block.timeEntryBody_short ha hp h0 hl]
          exact CountdownGood.good
            { state := rfl, pri := rfl, pau := rfl, cmb := rfl, tePhase := rfl, fresh := fun _ => h.fresh }
        · rw [Block.timeEntryBody_long ha hp (Nat.le_of_not_lt hl)]
          exact TimeEntryGood.good
            { h with pri := rfl, pau := rfl, cmb := rfl, cmbArmed := .inl rfl, prompted := .inl rfl }

/-! ### `Countdown` -/

theorem Block.countdownEntry_good {b : Block p} (h : CountdownGood b.ctl) : CountdownGood b.countdownEntry.ctl :=
  { h with fresh := nofun }

/-- Once `Countdown` is entered, the console character may change the display modes. -/
theorem Block.countdownCommand_good {b : Block p} (h : CountdownGood b.ctl) (he : b.ctl.entered = true) :
    CountdownGood b.countdownCommand.ctl := by
  rw [Block.countdownCommand_eq]
  exact { h with fresh := fun hne => absurd (he.symm.trans hne) nofun }

theorem Block.programTarget_good {b : Block p} (h : CountdownGood b.ctl) : CountdownGood b.programTarget.ctl := { h with }

/-- The completion leaves for `Done` with no character pending, because step (2) drained it. -/
theorem Block.countdownSecond_good {b : Block p} (h : CountdownGood b.ctl) (hchar : b.ctl.cmdAvail = false) :
    ControlGood b.countdownSecond.ctl := by
  by_cases hb : b.ctl.secondBoundary = true ∧ b.ctl.paused = false
  · cases hc : b.ctl.duration.decrement.complete
    case true =>
      rw [Block.countdownSecond_completes hb.1 hb.2 hc]
      exact DoneGood.good
        { h with state := rfl, pri := rfl, pau := rfl, cmb := rfl, cmdAvail := hchar, pair := nofun }
    case false =>
      rw [Block.countdownSecond_decrements hb.1 hb.2 hc]
      exact CountdownGood.good { h with }
  · rw [Block.countdownSecond_counts hb]
    exact CountdownGood.good { h with }

theorem Block.countdownBody_good {b : Block p} (h : CountdownGood b.ctl) (he : b.ctl.entered = true) :
    ControlGood b.countdownBody.ctl := by
  obtain hb | ⟨hc, paused, hcons, hb⟩ := b.countdownButton_cases
  · rw [Block.countdownBody_aborted hb]
    exact DoneGood.good { h with state := rfl, pri := rfl, pau := rfl, cmb := rfl, cmdAvail := rfl, pair := nofun }
  · rw [Block.countdownBody_goesOn hb]
    have hserved : CountdownGood ({ b with ctl.hold.pau := hc, ctl.paused := paused } : Block p).ctl :=
      { h with pau := hcons }
    exact Block.countdownSecond_good (Block.programTarget_good (Block.countdownCommand_good hserved he))
      (Block.countdownCommand_cmdAvail _)

/-! ### `Done` -/

theorem Block.doneEntry_good {b : Block p} (h : DoneGood b.ctl) : DoneGood b.doneEntry.ctl :=
  { h with pair := fun _ => ⟨nofun, rfl⟩ }

/-- The status pair of `Done` is swapped as a whole, so it keeps differing. -/
theorem Block.doneBody_good {b : Block p} (h : DoneGood b.ctl) (he : b.ctl.entered = true) :
    ControlGood b.doneBody.ctl := by
  obtain ⟨hne, hsolid⟩ := h.pair he
  by_cases hl : b.ctl.doneCount.val + 1 = p.doneTicks
  · rw [Block.doneBody_last hl]
    exact controlGood_reset
  · rw [Block.doneBody_counts hl]
    refine DoneGood.good { h with pair := fun _ => ⟨?_, hsolid⟩ }
    by_cases hm : (b.ctl.doneCount.val + 1) % p.doneToggleTicks = 0 <;> simp [hm, hne]

/-! ### Operations -/

theorem Block.slowTick_good {b : Block p} (hg : ControlGood b.ctl) : ControlGood b.slowTick.ctl := by
  cases hs : b.ctl.state
  case waiting =>
    have h : WaitingGood b.quiet.ctl := waitingGood_iff.2 ⟨hs, hg⟩
    rw [Block.slowTick_waiting hs]
    exact Block.enter_induction (P := fun x => ControlGood x.waitingBody.ctl)
      (fun _ => Block.waitingBody_good h) (fun _ => Block.waitingBody_good (Block.waitingEntry_good h))
  case timeEntry =>
    have h : TimeEntryGood b.quiet.ctl := timeEntryGood_iff.2 ⟨hs, hg⟩
    rw [Block.slowTick_timeEntry hs]
    exact Block.enter_induction (P := fun x => ControlGood x.timeEntryBody.ctl)
      (Block.timeEntryBody_good h) (fun hne => Block.timeEntryBody_good (Block.timeEntryEntry_good h hne) rfl)
  case countdown =>
    have h : CountdownGood b.quiet.ctl := countdownGood_iff.2 ⟨hs, hg⟩
    rw [Block.slowTick_countdown hs]
    exact Block.enter_induction (P := fun x => ControlGood x.countdownBody.ctl)
      (Block.countdownBody_good h) (fun _ => Block.countdownBody_good (Block.countdownEntry_good h) rfl)
  case done =>
    have h : DoneGood b.quiet.ctl := doneGood_iff.2 ⟨hs, hg⟩
    rw [Block.slowTick_done hs]
    exact Block.enter_induction (P := fun x => ControlGood x.doneBody.ctl)
      (Block.doneBody_good h) (fun _ => Block.doneBody_good (Block.doneEntry_good h) rfl)

theorem Block.derivedTick_good {b : Block p} (hg : ControlGood b.ctl) : ControlGood b.derivedTick.ctl := by
  cases ht : atTop b.slowDiv
  case true =>
    rw [Block.derivedTick_slow ht]
    exact Block.slowTick_good hg
  case false =>
    rw [Block.derivedTick_fast ht]
    exact hg

theorem Block.command_good {b : Block p} (ch : Byte) (hg : ControlGood b.ctl) : ControlGood (b.command ch).ctl := by
  by_cases hs : b.ctl.state = .countdown
  · rw [Block.command_latches ch hs]
    exact CountdownGood.good { countdownGood_iff.2 ⟨hs, hg⟩ with }
  · rw [Block.command_drops ch hs]
    exact hg

/-- An accepted line arms the duration in an entered `TimeEntry`, with the combo counter clear. -/
theorem Block.line_good {b : Block p} (n : BitVec 3) (dg : BitVec 16) (hg : ControlGood b.ctl) :
    ControlGood (b.line n dg).ctl := by
  cases ha : b.ctl.acceptsLine
  case true =>
    obtain ⟨hs, -, he⟩ := (Control.acceptsLine_iff _).1 ha
    rw [Block.line_accepted n dg ha]
    exact TimeEntryGood.good
      { timeEntryGood_iff.2 ⟨hs, hg⟩ with cmb := rfl, cmbArmed := .inl rfl, prompted := .inr he }
  case false =>
    rw [Block.line_dropped n dg ha]
    exact hg

theorem exec_good {i : Instr} {s t : State} (hg : Good s) (h : exec i s = .next t) : Good t := by
  cases i <;> cases h
  case nop => exact hg
  case rst => exact controlGood_reset
  case ftick => exact hg
  case stick => exact Block.slowTick_good hg
  case tick => exact Block.derivedTick_good hg
  case btn lv => exact hg
  case adc val => exact hg
  case cmd ch => exact Block.command_good ch hg
  case line n dg => exact Block.line_good n dg hg

/-- Taking a word from the stream leaves the block as it is. -/
theorem State.fetch_blk {s s' : State} {i : Instr} (h : s.fetch = .ok (i, s')) : s'.blk = s.blk := by
  unfold State.fetch at h
  split at h
  · cases h
  · split at h
    · cases h; rfl
    · cases h
  · cases h

/-- Settles O55: each operation keeps a good state good (`exec_good`), and taking its word leaves the block alone. -/
theorem everyStepKeepsTheStateGood : Obligations.EveryStepKeepsTheStateGood := by
  intro s t hg h
  obtain ⟨i, s', hf, hstep⟩ | ⟨r, -, hstep⟩ := step_cases s
  · have hg' : Good s' := by rwa [Good, State.fetch_blk hf]
    exact exec_good hg' (hstep ▸ h)
  · cases hstep ▸ h

/-- Settles O56. -/
theorem resetIsGood : Obligations.ResetIsGood := controlGood_reset

end Sys2Proof.Machine
end

section
/-! The reset values (10_state.md R33) and the ports (R35). -/

namespace Sys2Proof.Machine

open Sys2Proof.Safety

/-- The table of R33, from the reset values of the two domains and the divider. -/
theorem atReset_of_domains {b : Block Config.params} (hgen : b.gen = Generator.reset Config.params)
    (hctl : b.ctl = Control.reset Config.params) (hdiv : b.slowDiv.val = 0) : AtReset b := by
  simp only [AtReset, hgen, hctl, hdiv]
  decide

/-- Settles O13. -/
theorem rstGivesEveryFieldItsResetValue : Obligations.RstGivesEveryFieldItsResetValue := by
  intro s
  exact ⟨s.withBlock s.blk.restart, rfl, atReset_of_domains rfl rfl rfl, rfl, rfl, rfl, rfl⟩

/-- Settles O14. -/
theorem machineStartsAtReset : Obligations.MachineStartsAtReset := atReset_of_domains rfl rfl rfl

/-- A port of `w` bits shows a number below `2 ^ w` without loss. -/
theorem port_toNat {w n : Nat} (h : n < 2 ^ w) : (BitVec.ofNat w n).toNat = n := by
  rw [BitVec.toNat_ofNat, Nat.mod_eq_of_lt h]

/-- Settles O57: the flags are the fields themselves, and each number is in the range of its port at the default parameters
(`Control.minutes_lt` and its like). -/
theorem portsShowTheirFields : Obligations.PortsShowTheirFields := by
  intro s
  refine ⟨port_toNat (s.blk.ctl.minutes_lt.trans (by decide)), port_toNat (s.blk.ctl.seconds_lt.trans (by decide)),
    port_toNat (s.blk.ctl.dutyTicks_lt.trans (by decide)), port_toNat (s.blk.gen.target_lt.trans (by decide)), ?_,
    rfl, rfl, rfl, rfl, rfl, rfl, port_toNat s.blk.ctl.adcSample_lt⟩
  change s.blk.ctl.state.code.toNat = _
  cases s.blk.ctl.state <;> rfl

end Sys2Proof.Machine
end

section
/-! At most one event an operation, and only from a slow tick (10_state.md R37, R187). -/

namespace Sys2Proof.Machine

variable {p : Params}

/-! ### What each sub-rule emits -/

@[simp] theorem Block.waitingBody_out (b : Block p) : b.waitingBody.out = b.out := by rw [Block.waitingBody_writes_ctl]

@[simp] theorem Block.timeEntryBody_out (b : Block p) : b.timeEntryBody.out = b.out := by
  rw [Block.timeEntryBody_writes_ctl]

@[simp] theorem Block.doneBody_out (b : Block p) : b.doneBody.out = b.out := by
  by_cases hl : b.ctl.doneCount.val + 1 = p.doneTicks
  · rw [Block.doneBody_last hl]
  · rw [Block.doneBody_counts hl]

/-- Step (4) of `Countdown` emits a status line or nothing, and nothing away from a second boundary (R123). -/
theorem Block.countdownSecond_out (b : Block p) :
    b.countdownSecond.out = b.out ∨ (b.ctl.secondBoundary = true ∧ b.countdownSecond.out = b.out.emit .status) := by
  by_cases hb : b.ctl.secondBoundary = true ∧ b.ctl.paused = false
  · cases hc : b.ctl.duration.decrement.complete
    · exact .inr ⟨hb.1, by rw [Block.countdownSecond_decrements hb.1 hb.2 hc]⟩
    · exact .inr ⟨hb.1, by rw [Block.countdownSecond_completes hb.1 hb.2 hc]⟩
  · exact .inl (by rw [Block.countdownSecond_counts hb])

/-- Steps (2) and (3) emit nothing and leave the tick accumulator. -/
theorem Block.commandThenTarget_out (b : Block p) :
    b.countdownCommand.programTarget.out = b.out ∧
      b.countdownCommand.programTarget.ctl.secondBoundary = b.ctl.secondBoundary := by
  rw [Block.countdownCommand_eq]
  exact ⟨rfl, rfl⟩

/-- A whole tick body of `Countdown` emits what its step (4) emits: the other steps emit nothing. -/
theorem Block.countdownBody_out (b : Block p) :
    b.countdownBody.out = b.out ∨ (b.ctl.secondBoundary = true ∧ b.countdownBody.out = b.out.emit .status) := by
  obtain hb | ⟨hc, paused, -, hb⟩ := b.countdownButton_cases
  · rw [Block.countdownBody_aborted hb]
    exact .inl rfl
  · obtain ⟨hout, hsec⟩ := Block.commandThenTarget_out { b with ctl.hold.pau := hc, ctl.paused := paused }
    have hbody := Block.countdownSecond_out
      { b with ctl.hold.pau := hc, ctl.paused := paused }.countdownCommand.programTarget
    rwa [hout, hsec, ← Block.countdownBody_goesOn hb] at hbody

/-- A first-entry action emits its one event. -/
theorem Block.enter_out {b : Block p} {action : Block p → Block p} {e : Event} (h : (action b).out = b.out.emit e) :
    (b.enter action).out = b.out ∨ (b.enter action).out = b.out.emit e :=
  Block.enter_induction (P := fun x => x.out = b.out ∨ x.out = b.out.emit e) (fun _ => .inl rfl) (fun _ => .inr h)

/-! ### One operation -/

/-- An output record with at most one event. -/
def Out.AtMostOne (o : Out) : Prop := o = Out.none ∨ ∃ e, o = Out.none.emit e

theorem Out.AtMostOne.events_length {o : Out} (h : o.AtMostOne) : o.events.length ≤ 1 := by
  obtain rfl | ⟨e, rfl⟩ := h
  · decide
  · cases e <;> decide

/-- The entry tick of `Countdown` clears `tickAcc`, so where a second has more than one slow tick it is no second boundary,
and its help banner is not followed by a status line. -/
theorem Block.slowTick_out (b : Block p) (hsec : 1 < p.ticksPerSec) : b.slowTick.out.AtMostOne := by
  cases hs : b.ctl.state
  case waiting =>
    rw [Block.slowTick_waiting hs, Block.waitingBody_out]
    exact (Block.enter_out (b := b.quiet) (e := .waiting) rfl).imp_right fun h => ⟨_, h⟩
  case timeEntry =>
    rw [Block.slowTick_timeEntry hs, Block.timeEntryBody_out]
    exact (Block.enter_out (b := b.quiet) (e := .prompt) rfl).imp_right fun h => ⟨_, h⟩
  case countdown =>
    rw [Block.slowTick_countdown hs]
    refine Block.enter_induction (P := fun x => x.countdownBody.out.AtMostOne) (fun _ => ?_) (fun _ => ?_)
    · exact (Block.countdownBody_out b.quiet).imp_right fun h => ⟨_, h.2⟩
    · obtain h | ⟨hb, -⟩ := Block.countdownBody_out b.quiet.countdownEntry
      · exact .inr ⟨.banner, h⟩
      · have : 0 + 1 = p.ticksPerSec := (atTop_iff _).1 hb
        omega
  case done =>
    rw [Block.slowTick_done hs, Block.doneBody_out]
    exact (Block.enter_out (b := b.quiet) (e := .done) rfl).imp_right fun h => ⟨_, h⟩

@[simp] theorem Block.command_out (b : Block p) (ch : Byte) : (b.command ch).out = Out.none := by
  obtain ⟨_, _, hframe⟩ := b.command_frame ch
  rw [hframe]

@[simp] theorem Block.line_out (b : Block p) (n : BitVec 3) (dg : BitVec 16) : (b.line n dg).out = Out.none := by
  obtain ⟨_, _, _, hframe⟩ := b.line_frame n dg
  rw [hframe]

/-- Every operation but a slow tick leaves the record of its start, which is all 0. -/
theorem exec_out {i : Instr} {s t : State} (h : exec i s = .next t) :
    t.blk.out = Out.none ∨
      (t.blk.out.AtMostOne ∧ (i = .stick ∨ (i = .tick ∧ s.blk.slowDiv.val = 19))) := by
  have hsec : 1 < Config.params.ticksPerSec := by decide
  cases i <;> cases h
  case stick => exact .inr ⟨Block.slowTick_out _ hsec, .inl rfl⟩
  case tick =>
    cases ht : atTop s.blk.slowDiv
    case true =>
      have h19 : s.blk.slowDiv.val + 1 = 20 := (atTop_iff _).1 ht
      refine .inr ⟨?_, .inr ⟨rfl, by omega⟩⟩
      rw [State.withBlock_blk, Block.derivedTick_slow ht]
      exact Block.slowTick_out _ hsec
    case false =>
      rw [State.withBlock_blk, Block.derivedTick_fast ht]
      exact .inl rfl
  case cmd ch => exact .inl (Block.command_out _ ch)
  case line n dg => exact .inl (Block.line_out _ n dg)
  all_goals exact .inl rfl

/-- Settles O54, by what each operation emits (`exec_out`). -/
theorem atMostOneEventAnOperation : Obligations.AtMostOneEventAnOperation := by
  intro i s t h
  obtain hnone | ⟨hone, hslow⟩ := exec_out h
  · exact ⟨Out.AtMostOne.events_length (.inl hnone), fun hne => absurd hnone hne⟩
  · exact ⟨hone.events_length, fun _ => hslow⟩

end Sys2Proof.Machine
end

section
/-! Each field is changed by its listed writers alone (10_state.md R31). -/

namespace Sys2Proof.Machine

variable {p : Params}

/-- A derived tick leaves the pins to the environment. -/
theorem Block.derivedTick_pins (b : Block p) :
    b.derivedTick.pinBtn = b.pinBtn ∧ b.derivedTick.pinAdc = b.pinAdc := by
  cases ht : atTop b.slowDiv
  case true =>
    rw [Block.derivedTick_slow ht]
    exact ⟨Block.slowTick_pinBtn _, Block.slowTick_pinAdc _⟩
  case false =>
    rw [Block.derivedTick_fast ht]
    exact ⟨rfl, rfl⟩

/-- A fast tick writes the duty target in `Waiting` only (R88). -/
theorem Block.state_of_fastTick_target_ne {b : Block p} (h : b.fastTick.gen.target ≠ b.gen.target) :
    b.ctl.state = .waiting := by
  by_contra hs
  have hb : b.ctl.breathe = false := decide_eq_false hs
  rw [Block.fastTick_eq, hb] at h
  exact h b.gen.tick_inert.1

/-- In `Waiting` a slow tick leaves the generator alone (R117). -/
theorem Block.slowTick_gen_of_waiting {b : Block p} (hs : b.ctl.state = .waiting) : b.slowTick.gen = b.gen := by
  rw [Block.slowTick_waiting hs, Block.waitingBody_writes_ctl]
  exact Block.enter_induction (P := fun x => x.gen = b.gen) (fun _ => rfl) (fun _ => rfl)

/-- Of the generator, a slow tick writes the duty target alone, and not that in `Waiting` (R92, R117). -/
theorem Block.slowTick_gen (b : Block p) :
    ∃ target, b.slowTick.gen = { b.gen with target := target } ∧
      (target ≠ b.gen.target → b.ctl.state ≠ .waiting) :=
  ⟨b.slowTick.gen.target, by rw [b.slowTick_frame],
    fun hne hs => hne (congrArg Generator.target (Block.slowTick_gen_of_waiting hs))⟩

/-- Settles O52, operation by operation: what an operation does not write, its frame keeps. -/
theorem eachFieldHasItsWriters : Obligations.EachFieldHasItsWriters := by
  intro i s t h
  cases i <;> cases h
  case nop => simp
  case rst => simp [Block.restart]
  case ftick =>
    have htarget := Block.state_of_fastTick_target_ne (b := s.blk)
    simpa [Block.fastTick_eq] using htarget
  case stick =>
    obtain ⟨target, hgen, htarget⟩ := s.blk.slowTick_gen
    simpa [hgen] using htarget
  case tick =>
    obtain ⟨hbtn, hadc⟩ := s.blk.derivedTick_pins
    simp [hbtn, hadc, em]
  case btn lv => simp
  case adc val => simp
  case cmd ch =>
    obtain ⟨avail, char, hframe⟩ := s.blk.command_frame ch
    simp [hframe]
  case line n dg =>
    obtain ⟨d, phase, hold, hframe⟩ := s.blk.line_frame n dg
    simp [hframe]

end Sys2Proof.Machine
end

section
/-! Decoding and encoding of one operation word (30_encoding.md R50 to R52, R59, R61): the rows of the opcode map are told apart
by the opcode byte, so a word's decoding is the operation of the one row that it matches. -/

namespace Sys2Proof

/-! ### The opcode map -/

theorem Row.matches_iff (r : Row) (w : Word) : r.matches w = true ↔ w &&& r.mask = r.pattern := decide_eq_true_iff

/-- Every row fixes the whole opcode byte, so a word of the row has the row's. -/
theorem opcodeByte_of_matches {r : Row} {w : Word} (hr : r ∈ opcodeTable) (hm : r.matches w = true) :
    opcodeByte w = opcodeByte r.pattern := by
  have hmasks : ∀ a ∈ opcodeTable, opcodeByte a.mask = BitVec.allOnes 8 := by decide
  have hand : opcodeByte (w &&& r.mask) = opcodeByte w &&& opcodeByte r.mask := BitVec.extractLsb'_and
  rw [← (r.matches_iff w).1 hm, hand, hmasks r hr, BitVec.and_allOnes]

/-- A word matches at most one row (R61): no two rows have the same opcode byte. -/
theorem row_eq_of_matches {r r' : Row} {w : Word} (hr : r ∈ opcodeTable) (hr' : r' ∈ opcodeTable)
    (hm : r.matches w = true) (hm' : r'.matches w = true) : r = r' := by
  have hbyte : opcodeByte r.pattern = opcodeByte r'.pattern :=
    (opcodeByte_of_matches hr hm).symm.trans (opcodeByte_of_matches hr' hm')
  have hdistinct : ∀ a ∈ opcodeTable, ∀ b ∈ opcodeTable, opcodeByte a.pattern = opcodeByte b.pattern → a = b := by
    decide
  exact hdistinct r hr r' hr' hbyte

/-! ### The decoder, case by case -/

theorem decodeWord_of_matches {r : Row} {w : Word} (hr : r ∈ opcodeTable) (hm : r.matches w = true) :
    decodeWord w = .ok (r.opcode.operation w) := by
  unfold decodeWord
  split
  · next r' hfind =>
    have hr' : r' = r :=
      row_eq_of_matches (List.mem_of_find?_eq_some hfind) hr (List.find?_some (p := fun r : Row => r.matches w) hfind) hm
    rw [hr']
  · next hfind => exact absurd hm (List.find?_eq_none.1 hfind r hr)

theorem exists_row_of_decodeWord {w : Word} {i : Instr} (h : decodeWord w = .ok i) :
    ∃ r ∈ opcodeTable, r.matches w = true ∧ r.opcode.operation w = i := by
  unfold decodeWord at h
  split at h
  · next r hfind =>
    exact ⟨r, List.mem_of_find?_eq_some hfind, List.find?_some (p := fun r : Row => r.matches w) hfind, Except.ok.inj h⟩
  · cases h

/-! ### The two directions of the round trip -/

/-- The word of every operation matches the operation's row (R51, R52). -/
theorem matchesItsRow (i : Instr) : Laws.MatchesItsRow.Statement i := by
  cases i with
  | nop => exact Laws.MatchesItsRow.nop
  | rst => exact Laws.MatchesItsRow.rst
  | ftick => exact Laws.MatchesItsRow.ftick
  | stick => exact Laws.MatchesItsRow.stick
  | tick => exact Laws.MatchesItsRow.tick
  | btn lv => exact Laws.MatchesItsRow.btn lv
  | adc val => exact Laws.MatchesItsRow.adc val
  | cmd ch => exact Laws.MatchesItsRow.cmd ch
  | line n dg => exact Laws.MatchesItsRow.line n dg

/-- The operands of an encoded operation are read back where its format puts them (R51). -/
theorem operation_encode (i : Instr) : (Laws.opcodeOf i).operation (encode i) = i := by
  cases i with
  | btn lv => exact congrArg Instr.btn BitVec.extractLsb'_append_eq_right
  | adc val => exact congrArg Instr.adc BitVec.extractLsb'_append_eq_right
  | cmd ch => exact congrArg Instr.cmd BitVec.extractLsb'_append_eq_right
  | line n dg =>
    have hn : (encode (.line n dg)).extractLsb' 16 3 = n :=
      (BitVec.extractLsb'_append_eq_of_le (Nat.le_refl 16)).trans BitVec.extractLsb'_append_eq_right
    exact congrArg₂ Instr.line hn BitVec.extractLsb'_append_eq_right
  | _ => rfl

theorem decodeWord_encode (i : Instr) : decodeWord (encode i) = .ok i := by
  obtain ⟨r, hr, hop, hm⟩ := matchesItsRow i
  rw [decodeWord_of_matches hr hm, hop, operation_encode]

/-- The operation that a row reads from a word keeps the word's operand bits, and has the row's fixed bits elsewhere. -/
theorem encode_operation {r : Row} (hr : r ∈ opcodeTable) (w : Word) :
    encode (r.opcode.operation w) = r.pattern ||| (w &&& ~~~r.mask) := by
  refine BitVec.eq_of_getLsbD_eq fun k hk => ?_
  simp only [opcodeTable, List.mem_cons, List.not_mem_nil, or_false] at hr
  rcases hr with rfl | rfl | rfl | rfl | rfl | rfl | rfl | rfl | rfl <;>
    simp only [Opcode.operation, encode, BitVec.getLsbD_append, BitVec.getLsbD_or, BitVec.getLsbD_and,
      BitVec.getLsbD_extractLsb'] <;>
    interval_cases k <;> simp

/-- A word that decodes is the word of the operation it decodes to: where it matches a row, it has the row's fixed bits. -/
theorem encode_of_decodeWord {w : Word} {i : Instr} (h : decodeWord w = .ok i) : encode i = w := by
  obtain ⟨r, hr, hm, rfl⟩ := exists_row_of_decodeWord h
  rw [encode_operation hr, ← (r.matches_iff w).1 hm, ← BitVec.and_or_distrib_left, BitVec.or_not_self,
    BitVec.and_allOnes]

theorem decodeWord_eq_ok_iff {w : Word} {i : Instr} : decodeWord w = .ok i ↔ w = encode i :=
  ⟨fun h => (encode_of_decodeWord h).symm, fun h => h ▸ decodeWord_encode i⟩

end Sys2Proof
end

section
/-! The byte form of a stream (20_memory.md R47, R48): its decoder and the fetch, one equation per thing that can come next. A
next word is written `wordBytes w ++ rest`, whatever the word. -/

namespace Sys2Proof

/-! ### A word and its four bytes -/

@[simp] theorem wordOfBytes_wordBytes (w : Word) :
    wordOfBytes (w.extractLsb' 24 8) (w.extractLsb' 16 8) (w.extractLsb' 8 8) (w.extractLsb' 0 8) = w := by
  rw [wordOfBytes, BitVec.extractLsb'_append_extractLsb'_eq_extractLsb' (show 24 = 16 + 8 from rfl),
    BitVec.extractLsb'_append_extractLsb'_eq_extractLsb' (show 16 = 8 + 8 from rfl),
    BitVec.extractLsb'_append_extractLsb'_eq_extractLsb' (show 8 = 0 + 8 from rfl)]
  exact BitVec.extractLsb'_eq_self

theorem wordBytes_wordOfBytes (b3 b2 b1 b0 : Byte) : wordBytes (wordOfBytes b3 b2 b1 b0) = [b3, b2, b1, b0] := by
  have h0 : (wordOfBytes b3 b2 b1 b0).extractLsb' 0 8 = b0 := BitVec.extractLsb'_append_eq_right
  have h1 : (wordOfBytes b3 b2 b1 b0).extractLsb' 8 8 = b1 :=
    (BitVec.extractLsb'_append_eq_of_le (Nat.le_refl 8)).trans BitVec.extractLsb'_append_eq_right
  have h2 : (wordOfBytes b3 b2 b1 b0).extractLsb' 16 8 = b2 :=
    (BitVec.extractLsb'_append_eq_of_le (by decide)).trans
      ((BitVec.extractLsb'_append_eq_of_le (Nat.le_refl 8)).trans BitVec.extractLsb'_append_eq_right)
  have h3 : (wordOfBytes b3 b2 b1 b0).extractLsb' 24 8 = b3 :=
    (BitVec.extractLsb'_append_eq_of_le (by decide)).trans
      ((BitVec.extractLsb'_append_eq_of_le (by decide)).trans BitVec.extractLsb'_append_eq_left)
  rw [wordBytes, h0, h1, h2, h3]

/-- What a stream can start with: nothing, fewer bytes than a word has, or a word (R48). -/
theorem stream_cases (bytes : List Byte) :
    bytes = [] ∨ (0 < bytes.length ∧ bytes.length < 4) ∨ ∃ w rest, bytes = wordBytes w ++ rest := by
  match bytes with
  | [] => exact .inl rfl
  | [_] | [_, _] | [_, _, _] => exact .inr (.inl (by simp))
  | b3 :: b2 :: b1 :: b0 :: rest =>
    exact .inr (.inr ⟨wordOfBytes b3 b2 b1 b0, rest, by rw [wordBytes_wordOfBytes]; rfl⟩)

/-! ### The stream decoder -/

theorem decodeStream_nil (k : Nat) : decodeStream k [] = .ok [] := rfl

theorem decodeStream_partial (k : Nat) {bytes : List Byte} (hpos : 0 < bytes.length) (hlt : bytes.length < 4) :
    decodeStream k bytes = .error (.partialWord k) := by
  match bytes with
  | [_] | [_, _] | [_, _, _] => rfl

theorem decodeStream_invalid (k : Nat) {w : Word} {e : DecodeError} (rest : List Byte) (h : decodeWord w = .error e) :
    decodeStream k (wordBytes w ++ rest) = .error (.invalidWord k e) := by
  simp [wordBytes, decodeStream, h]

theorem decodeStream_valid (k : Nat) {w : Word} {i : Instr} (rest : List Byte) (h : decodeWord w = .ok i) :
    decodeStream k (wordBytes w ++ rest) = (decodeStream (k + 1) rest).map (i :: ·) := by
  simp only [wordBytes, List.cons_append, List.nil_append, decodeStream, wordOfBytes_wordBytes, h]
  cases decodeStream (k + 1) rest <;> rfl

/-- A stream that decodes is at its end, or the word of an operation is next and what follows that decodes. -/
theorem decodeStream_eq_ok_cases {k : Nat} {bytes : List Byte} {ops : List Instr} (h : decodeStream k bytes = .ok ops) :
    (bytes = [] ∧ ops = []) ∨
      ∃ i rest is, bytes = wordBytes (encode i) ++ rest ∧ ops = i :: is ∧ decodeStream (k + 1) rest = .ok is := by
  obtain rfl | ⟨hpos, hlt⟩ | ⟨w, rest, rfl⟩ := stream_cases bytes
  · cases h
    exact .inl ⟨rfl, rfl⟩
  · cases (decodeStream_partial k hpos hlt).symm.trans h
  · cases hw : decodeWord w with
    | error e => cases (decodeStream_invalid k rest hw).symm.trans h
    | ok i =>
      rw [decodeStream_valid k rest hw] at h
      cases hr : decodeStream (k + 1) rest with
      | error e => rw [hr] at h; cases h
      | ok is =>
        rw [hr] at h
        cases h
        exact .inr ⟨i, rest, is, by rw [encode_of_decodeWord hw], rfl, hr⟩

theorem decodeStream_eq_ok_nil_iff {k : Nat} {bytes : List Byte} : decodeStream k bytes = .ok [] ↔ bytes = [] := by
  constructor
  · intro h
    obtain ⟨hnil, -⟩ | ⟨i, rest, is, -, hcons, -⟩ := decodeStream_eq_ok_cases h
    · exact hnil
    · cases hcons
  · rintro rfl
    exact decodeStream_nil k

theorem decodeStream_eq_ok_cons_iff {k : Nat} {bytes : List Byte} {i : Instr} {is : List Instr} :
    decodeStream k bytes = .ok (i :: is) ↔
      ∃ rest, bytes = wordBytes (encode i) ++ rest ∧ decodeStream (k + 1) rest = .ok is := by
  constructor
  · intro h
    obtain ⟨-, hnil⟩ | ⟨j, rest, js, hbytes, hcons, hrest⟩ := decodeStream_eq_ok_cases h
    · cases hnil
    · cases hcons
      exact ⟨rest, hbytes, hrest⟩
  · rintro ⟨rest, rfl, hrest⟩
    rw [decodeStream_valid k rest (decodeWord_encode i), hrest]
    rfl

/-- Settles O6, by induction on the operations: each side takes the word of the first one off the stream. -/
theorem streamDecodingInvertsStreamEncoding : Obligations.StreamDecodingInvertsStreamEncoding := by
  intro k bytes ops
  induction ops generalizing k bytes with
  | nil => exact decodeStream_eq_ok_nil_iff
  | cons i is ih =>
    calc decodeStream k bytes = .ok (i :: is)
        ↔ ∃ rest, bytes = wordBytes (encode i) ++ rest ∧ decodeStream (k + 1) rest = .ok is :=
          decodeStream_eq_ok_cons_iff
      _ ↔ ∃ rest, bytes = wordBytes (encode i) ++ rest ∧ rest = streamBytes is := by simp only [ih]
      _ ↔ bytes = streamBytes (i :: is) := by simp [streamBytes]

end Sys2Proof

namespace Sys2Proof.Machine

/-! ### The fetch and the step -/

theorem State.fetch_end {s : State} (h : s.stream = []) : s.fetch = .error .streamEnd := by
  simp [State.fetch, h]

theorem State.fetch_partial {s : State} (hpos : 0 < s.stream.length) (hlt : s.stream.length < 4) :
    s.fetch = .error (.partialWord s.wordIndex) := by
  obtain ⟨blk, stream, wordIndex⟩ := s
  match stream with
  | [_] | [_, _] | [_, _, _] => rfl

theorem State.fetch_invalid {s : State} {w : Word} {e : DecodeError} {rest : List Byte}
    (hs : s.stream = wordBytes w ++ rest) (h : decodeWord w = .error e) :
    s.fetch = .error (.invalidWord s.wordIndex e) := by
  simp [State.fetch, hs, wordBytes, h]

theorem State.fetch_valid {s : State} {w : Word} {i : Instr} {rest : List Byte} (hs : s.stream = wordBytes w ++ rest)
    (h : decodeWord w = .ok i) : s.fetch = .ok (i, { s with stream := rest, wordIndex := s.wordIndex + 1 }) := by
  simp [State.fetch, hs, wordBytes, h]

theorem step_of_fetch_error {s : State} {r : Refusal} (h : s.fetch = .error r) : step s = .refused r := by
  simp [step, h]

theorem step_of_fetch_ok {s s' : State} {i : Instr} (h : s.fetch = .ok (i, s')) : step s = exec i s' := by
  simp [step, h]

/-- Settles O9: the fetch answers every kind of stream, and where it takes an operation, performing that completes. -/
theorem stepStopsOnlyWhereNoOperationIs : Obligations.StepStopsOnlyWhereNoOperationIs := by
  intro s
  refine ⟨fun w e rest hs hw => step_of_fetch_error (State.fetch_invalid hs hw),
    fun hpos hlt => step_of_fetch_error (State.fetch_partial hpos hlt),
    fun hs => step_of_fetch_error (State.fetch_end hs), fun r hr i rest hs => ?_⟩
  obtain ⟨b, hnext⟩ := exec_eq_next i { s with stream := rest, wordIndex := s.wordIndex + 1 }
  have hstep := step_of_fetch_ok (State.fetch_valid hs (decodeWord_encode i))
  cases hr.symm.trans (hstep.trans hnext)

end Sys2Proof.Machine
end

section
/-! What the two domains see of each other (20_memory.md R44, 41_pwm_breathing.md R92). The control side sees of the generator
the duty target alone: with anything else in the other fields of the generator, its operations do the same. That they do not write
those fields either is then a special case. -/

namespace Sys2Proof.Machine

variable {p : Params}

/-! ### The fields that the control side does not see -/

/-- The block with the fields that only the generator sees taken from `g`, and another slow-tick divider, which only `TICK` uses. -/
def Block.withPrivate (b : Block p) (g : Generator p) (d : Fin p.slowDiv) : Block p :=
  { b with gen := { g with target := b.gen.target }, slowDiv := d }

/-- The operation neither reads nor writes the fields of `Block.withPrivate`. -/
def IgnoresPrivate (f : Block p → Block p) : Prop :=
  ∀ (b : Block p) (g : Generator p) (d : Fin p.slowDiv), f (b.withPrivate g d) = (f b).withPrivate g d

theorem IgnoresPrivate.comp {f f' : Block p → Block p} (h' : IgnoresPrivate f') (h : IgnoresPrivate f) :
    IgnoresPrivate (fun b => f' (f b)) := fun b g d => (congrArg f' (h b g d)).trans (h' (f b) g d)

/-- Of the generator, such an operation writes at most the duty target: the contents of its own fields are one choice. -/
theorem IgnoresPrivate.gen_eq {f : Block p → Block p} (h : IgnoresPrivate f) (b : Block p) :
    (f b).gen = { b.gen with target := (f b).gen.target } := congrArg Block.gen (h b b.gen b.slowDiv)

theorem ignoresPrivate_quiet : IgnoresPrivate (p := p) Block.quiet := fun _ _ _ => rfl

/-! ### The sub-rules of the slow tick -/

theorem IgnoresPrivate.enter {action : Block p → Block p} (h : IgnoresPrivate action) :
    IgnoresPrivate (fun b => b.enter action) := by
  intro b g d
  cases he : b.ctl.entered
  case true =>
    have he' : (b.withPrivate g d).ctl.entered = true := he
    simp only [Block.enter_of_entered he, Block.enter_of_entered he']
  case false =>
    have he' : (b.withPrivate g d).ctl.entered = false := he
    simp only [Block.enter_of_not_entered he, Block.enter_of_not_entered he', h b g d]

theorem ignoresPrivate_waitingBody : IgnoresPrivate (p := p) Block.waitingBody := by
  intro b g d
  cases hp : pressed b.pinBtn p.primaryBtn
  case true =>
    rw [Block.waitingBody_pressed hp]
    exact Block.waitingBody_pressed hp
  case false =>
    by_cases hq : p.settleTicks ≤ b.ctl.hold.pri.ticks.val ∧ b.ctl.hold.pri.ticks.val < p.longPressTicks
    · rw [Block.waitingBody_click hp hq.1 hq.2]
      exact Block.waitingBody_click hp hq.1 hq.2
    · rw [Block.waitingBody_other hp hq]
      exact Block.waitingBody_other hp hq

theorem ignoresPrivate_timeEntryBody : IgnoresPrivate (p := p) Block.timeEntryBody := by
  intro b g d
  cases ha : b.ctl.tePhase
  case prompt =>
    rw [Block.timeEntryBody_prompt ha]
    exact Block.timeEntryBody_prompt ha
  case armed =>
    cases hp : comboAsserted p b.pinBtn
    case true =>
      rw [Block.timeEntryBody_pressed ha hp]
      exact Block.timeEntryBody_pressed ha hp
    case false =>
      by_cases h0 : b.ctl.hold.cmb.ticks.val = 0
      · rw [Block.timeEntryBody_idle ha hp h0]
        exact Block.timeEntryBody_idle ha hp h0
      · by_cases hl : b.ctl.hold.cmb.ticks.val < p.comboLongTicks
        · rw [Block.timeEntryBody_short ha hp h0 hl]
          exact Block.timeEntryBody_short ha hp h0 hl
        · rw [Block.timeEntryBody_long ha hp (Nat.le_of_not_lt hl)]
          exact Block.timeEntryBody_long ha hp (Nat.le_of_not_lt hl)

theorem ignoresPrivate_countdownCommand : IgnoresPrivate (p := p) Block.countdownCommand := by
  intro b g d
  rw [Block.countdownCommand_eq b]
  exact Block.countdownCommand_eq (b.withPrivate g d)

theorem ignoresPrivate_programTarget : IgnoresPrivate (p := p) Block.programTarget := fun _ _ _ => rfl

theorem ignoresPrivate_countdownSecond : IgnoresPrivate (p := p) Block.countdownSecond := by
  intro b g d
  by_cases hb : b.ctl.secondBoundary = true ∧ b.ctl.paused = false
  · cases hc : b.ctl.duration.decrement.complete
    · rw [Block.countdownSecond_decrements hb.1 hb.2 hc]
      exact Block.countdownSecond_decrements hb.1 hb.2 hc
    · rw [Block.countdownSecond_completes hb.1 hb.2 hc]
      exact Block.countdownSecond_completes hb.1 hb.2 hc
  · rw [Block.countdownSecond_counts hb]
    exact Block.countdownSecond_counts hb

/-- Where step (1) lets the tick go on, the other steps are performed on the block that it leaves. -/
theorem Block.countdownBody_withPrivate_of_goesOn {b b' : Block p} {g : Generator p} {d : Fin p.slowDiv}
    (h : b.countdownButton = .goesOn b') (h' : (b.withPrivate g d).countdownButton = .goesOn (b'.withPrivate g d)) :
    (b.withPrivate g d).countdownBody = b.countdownBody.withPrivate g d := by
  rw [Block.countdownBody_goesOn h, Block.countdownBody_goesOn h']
  exact ignoresPrivate_countdownSecond.comp (ignoresPrivate_programTarget.comp ignoresPrivate_countdownCommand) b' g d

theorem ignoresPrivate_countdownBody : IgnoresPrivate (p := p) Block.countdownBody := by
  intro b g d
  cases hp : pressed b.pinBtn p.pauseBtn
  case true =>
    exact Block.countdownBody_withPrivate_of_goesOn (Block.countdownButton_pressed hp) (Block.countdownButton_pressed hp)
  case false =>
    by_cases hl : p.longPressTicks ≤ b.ctl.hold.pau.ticks.val
    · rw [Block.countdownBody_aborted (Block.countdownButton_abort hp hl)]
      exact Block.countdownBody_aborted (Block.countdownButton_abort hp hl)
    · by_cases hs : p.settleTicks ≤ b.ctl.hold.pau.ticks.val
      · have hlt := Nat.lt_of_not_le hl
        exact Block.countdownBody_withPrivate_of_goesOn
          (Block.countdownButton_click hp hs hlt) (Block.countdownButton_click hp hs hlt)
      · have hlt := Nat.lt_of_not_le hs
        exact Block.countdownBody_withPrivate_of_goesOn
          (Block.countdownButton_other hp hlt) (Block.countdownButton_other hp hlt)

theorem ignoresPrivate_doneBody : IgnoresPrivate (p := p) Block.doneBody := by
  intro b g d
  by_cases hl : b.ctl.doneCount.val + 1 = p.doneTicks
  · rw [Block.doneBody_last hl]
    exact Block.doneBody_last hl
  · rw [Block.doneBody_counts hl]
    exact Block.doneBody_counts hl

/-! ### The operations -/

/-- One evaluation in a fixed state: the record cleared, the entry action, the tick body. -/
theorem IgnoresPrivate.evaluation {action body : Block p → Block p} (hbody : IgnoresPrivate body)
    (haction : IgnoresPrivate action) : IgnoresPrivate fun b => body (b.quiet.enter action) :=
  hbody.comp (haction.enter.comp ignoresPrivate_quiet)

theorem ignoresPrivate_slowTick : IgnoresPrivate (p := p) Block.slowTick := by
  intro b g d
  cases hs : b.ctl.state
  case waiting =>
    rw [Block.slowTick_waiting hs, Block.slowTick_waiting (b := b.withPrivate g d) hs]
    exact ignoresPrivate_waitingBody.evaluation (action := Block.waitingEntry) (fun _ _ _ => rfl) b g d
  case timeEntry =>
    rw [Block.slowTick_timeEntry hs, Block.slowTick_timeEntry (b := b.withPrivate g d) hs]
    exact ignoresPrivate_timeEntryBody.evaluation (action := Block.timeEntryEntry) (fun _ _ _ => rfl) b g d
  case countdown =>
    rw [Block.slowTick_countdown hs, Block.slowTick_countdown (b := b.withPrivate g d) hs]
    exact ignoresPrivate_countdownBody.evaluation (action := Block.countdownEntry) (fun _ _ _ => rfl) b g d
  case done =>
    rw [Block.slowTick_done hs, Block.slowTick_done (b := b.withPrivate g d) hs]
    exact ignoresPrivate_doneBody.evaluation (action := Block.doneEntry) (fun _ _ _ => rfl) b g d

theorem ignoresPrivate_command (ch : Byte) : IgnoresPrivate (p := p) (Block.command · ch) := by
  intro b g d
  by_cases hs : b.ctl.state = .countdown
  · simp only [Block.command_latches ch hs]
    exact Block.command_latches ch hs
  · simp only [Block.command_drops ch hs]
    exact Block.command_drops ch hs

theorem ignoresPrivate_line (n : BitVec 3) (dg : BitVec 16) : IgnoresPrivate (p := p) (Block.line · n dg) := by
  intro b g d
  cases ha : b.ctl.acceptsLine
  · simp only [Block.line_dropped n dg ha]
    exact Block.line_dropped n dg ha
  · simp only [Block.line_accepted n dg ha]
    exact Block.line_accepted n dg ha

/-- `STICK`, `CMD` and `LINE` are operations of the control side on the block (R44, R164). -/
theorem exec_ignoresPrivate {i : Instr} (hi : i = .stick ∨ (∃ ch, i = .cmd ch) ∨ ∃ n dg, i = .line n dg) :
    ∃ f : Block Config.params → Block Config.params, IgnoresPrivate f ∧
      ∀ s, exec i s = .next (s.withBlock (f s.blk)) := by
  obtain rfl | ⟨ch, rfl⟩ | ⟨n, dg, rfl⟩ := hi
  · exact ⟨_, ignoresPrivate_slowTick, fun _ => rfl⟩
  · exact ⟨_, ignoresPrivate_command ch, fun _ => rfl⟩
  · exact ⟨_, ignoresPrivate_line n dg, fun _ => rfl⟩

/-- Two blocks that agree on what the control side sees differ in the unseen fields and the output record. -/
theorem Block.eq_withPrivate {b b' : Block p} (hctl : b.ctl = b'.ctl) (htarget : b.gen.target = b'.gen.target)
    (hbtn : b.pinBtn = b'.pinBtn) (hadc : b.pinAdc = b'.pinAdc) :
    { b' with out := b.out } = b.withPrivate b'.gen b'.slowDiv := by
  simp [Block.withPrivate, hctl, htarget, hbtn, hadc]

/-- A fast tick takes nothing from the control domain but its `state` (R92). -/
theorem Block.fastTick_gen_congr {b b' : Block p} (hgen : b.gen = b'.gen) (hstate : b.ctl.state = b'.ctl.state) :
    b.fastTick.gen = b'.fastTick.gen := by
  simp [Block.fastTick_eq, Control.breathe, hgen, hstate]

/-- Settles O53: the second run's state is the first's with other unseen fields, and an output record that no operation reads
(`exec_ignores_out`); so the results differ in the unseen fields alone. -/
theorem domainsShareTwoFields : Obligations.DomainsShareTwoFields := by
  constructor
  · intro i s s' t t' hi hctl htarget hbtn hadc ht ht'
    obtain ⟨f, hf, hexec⟩ := exec_ignoresPrivate hi
    rw [hexec] at ht
    rw [← exec_ignores_out i s' s.blk.out, hexec, Block.eq_withPrivate hctl htarget hbtn hadc, hf] at ht'
    cases ht
    cases ht'
    exact ⟨rfl, rfl, rfl, hf.gen_eq s.blk⟩
  · intro s s' t t' hgen hstate ht ht'
    cases ht
    cases ht'
    exact Block.fastTick_gen_congr hgen hstate

end Sys2Proof.Machine
end

section
/-! The statements about one operation word (30_encoding.md R50 to R52, R59 to R61). A row of the opcode map asks for its opcode
byte and for operand bits that fit its format, so a word is rejected for the one or for the other. -/

namespace Sys2Proof

/-! ### The round trip and the opcode map -/

/-- Settles O1: the operation's word matches its own row and no other, and the row's operand fields read back (R51, R52). -/
theorem decodeInvertsEncode : Obligations.DecodeInvertsEncode := decodeWord_encode

/-- Settles O2: the row that a word matches fixes all bits but its operands', and the operation keeps those (R51, R52, R59). -/
theorem encodeInvertsDecode : Obligations.EncodeInvertsDecode := fun _ _ => encode_of_decodeWord

/-- Settles O4: the opcode bytes tell the rows apart (R52). -/
theorem noWordMatchesTwoRows : Obligations.NoWordMatchesTwoRows := fun _ _ _ => row_eq_of_matches

/-- Settles O5, by the round trip: each sample word is the word of its operation (R51). -/
theorem sampleWordsDecode : Obligations.SampleWordsDecode := by
  simp only [Obligations.SampleWordsDecode, decodeWord_eq_ok_iff]
  decide

/-! ### Words in numbers -/

/-- How many low bits of its word the operands of an operation take (R51). -/
def Opcode.operandBits : Opcode → Nat
  | .btn => 3
  | .adc => 10
  | .cmd => 8
  | .line => 19
  | _ => 0

/-- A row in numbers: its opcode byte and how many low bits its operands take. -/
def Row.format (r : Row) : Nat × Nat := ((opcodeByte r.pattern).toNat, r.opcode.operandBits)

/-- The opcode bytes of R52 and the operand widths of R51. -/
theorem map_format_opcodeTable :
    opcodeTable.map Row.format
      = [(0x00, 0), (0x01, 0), (0x02, 0), (0x03, 0), (0x04, 0), (0x10, 3), (0x11, 10), (0x12, 8), (0x13, 19)] := by
  decide

/-- The mask of a row covers all bits but the operands', and its pattern sets bits of the opcode byte alone (R52). -/
theorem row_format {r : Row} (hr : r ∈ opcodeTable) :
    r.mask = BitVec.allOnes 32 <<< r.format.2 ∧ r.pattern.toNat = r.format.1 * 2 ^ 24 ∧ r.format.2 ≤ 24 := by
  have hformats : ∀ a ∈ opcodeTable,
      a.mask = BitVec.allOnes 32 <<< a.format.2 ∧ a.pattern.toNat = a.format.1 * 2 ^ 24 ∧ a.format.2 ≤ 24 := by decide
  exact hformats r hr

theorem row_eq_of_opcodeByte {r r' : Row} (hr : r ∈ opcodeTable) (hr' : r' ∈ opcodeTable)
    (h : opcodeByte r.pattern = opcodeByte r'.pattern) : r = r' := by
  have hdistinct : ∀ a ∈ opcodeTable, ∀ b ∈ opcodeTable, opcodeByte a.pattern = opcodeByte b.pattern → a = b := by
    decide
  exact hdistinct r hr r' hr' h

theorem opcodeByte_toNat (w : Word) : (opcodeByte w).toNat = w.toNat / 2 ^ 24 := by
  rw [opcodeByte, BitVec.extractLsb'_toNat, Nat.shiftRight_eq_div_pow]
  omega

/-- What is left of a word when its `k` low bits are masked off. -/
theorem toNat_and_allOnes_shiftLeft (w : Word) (k : Nat) :
    (w &&& BitVec.allOnes 32 <<< k).toNat = w.toNat / 2 ^ k * 2 ^ k := by
  have hle : w.toNat / 2 ^ k * 2 ^ k ≤ w.toNat := Nat.div_mul_le_self w.toNat (2 ^ k)
  rw [← BitVec.shiftLeft_ushiftRight, BitVec.toNat_shiftLeft, BitVec.toNat_ushiftRight, Nat.shiftRight_eq_div_pow,
    Nat.shiftLeft_eq, Nat.mod_eq_of_lt (hle.trans_lt w.isLt)]

/-- The row has the word's opcode byte, in numbers. -/
theorem opcodeByte_pattern_eq_iff {r : Row} {w : Word} :
    opcodeByte r.pattern = opcodeByte w ↔ r.format.1 = w.toNat / 2 ^ 24 := by
  rw [← BitVec.toNat_inj, opcodeByte_toNat w, Row.format]

/-- A word matches a row where it has the row's opcode byte, and no bit above the operands' in the other three (R51, R52). -/
theorem matches_iff_format {r : Row} (hr : r ∈ opcodeTable) (w : Word) :
    r.matches w = true ↔ r.format.1 = w.toNat / 2 ^ 24 ∧ w.toNat % 2 ^ 24 < 2 ^ r.format.2 := by
  obtain ⟨hmask, hpattern, hbits⟩ := row_format hr
  rw [Row.matches_iff, hmask, ← BitVec.toNat_inj, toNat_and_allOnes_shiftLeft, hpattern]
  generalize r.format.2 = k at hbits ⊢
  interval_cases k <;> omega

/-! ### Rejected words -/

theorem decodeWord_of_no_match {w : Word} (h : ∀ r ∈ opcodeTable, ¬ r.matches w = true) :
    decodeWord w = .error (rejection w) := by
  have hnone : opcodeTable.find? (fun r => r.matches w) = none := List.find?_eq_none.2 h
  simp only [decodeWord, hnone]

theorem decodeWord_eq_error_iff {w : Word} {e : DecodeError} :
    decodeWord w = .error e ↔ (∀ r ∈ opcodeTable, ¬ r.matches w = true) ∧ rejection w = e := by
  constructor
  · intro h
    have hnone : ∀ r ∈ opcodeTable, ¬ r.matches w = true := fun r hr hm =>
      nomatch (decodeWord_of_matches hr hm).symm.trans h
    exact ⟨hnone, Except.error.inj ((decodeWord_of_no_match hnone).symm.trans h)⟩
  · rintro ⟨hnone, rfl⟩
    exact decodeWord_of_no_match hnone

theorem rejection_of_assigned {w : Word} (h : ∃ r ∈ opcodeTable, opcodeByte r.pattern = opcodeByte w) :
    rejection w = .reservedBits (opcodeByte w) := by
  simpa [rejection] using h

theorem rejection_of_unassigned {w : Word} (h : ∀ r ∈ opcodeTable, opcodeByte r.pattern ≠ opcodeByte w) :
    rejection w = .unassignedOpcode (opcodeByte w) := by
  simpa [rejection] using h

/-- A word is rejected for its opcode where no row has it (R60). -/
theorem unassignedOpcode_iff (w : Word) :
    (∃ op, decodeWord w = .error (.unassignedOpcode op)) ↔ ∀ f ∈ opcodeTable.map Row.format, f.1 ≠ w.toNat / 2 ^ 24 := by
  simp only [List.forall_mem_map, ne_eq, ← opcodeByte_pattern_eq_iff]
  constructor
  · rintro ⟨op, h⟩ r hr hbyte
    cases (rejection_of_assigned ⟨r, hr, hbyte⟩).symm.trans (decodeWord_eq_error_iff.1 h).2
  · intro h
    have hnone : ∀ r ∈ opcodeTable, ¬ r.matches w = true := fun r hr hm =>
      h r hr (opcodeByte_of_matches hr hm).symm
    exact ⟨_, decodeWord_eq_error_iff.2 ⟨hnone, rejection_of_unassigned h⟩⟩

/-- A word of a row's opcode is rejected where its operand bits do not fit the row's format: no other row has that opcode. -/
theorem no_match_of_operands_too_wide {r : Row} {w : Word} (hr : r ∈ opcodeTable)
    (hbyte : opcodeByte r.pattern = opcodeByte w) (hwide : 2 ^ r.format.2 ≤ w.toNat % 2 ^ 24) :
    ∀ r' ∈ opcodeTable, ¬ r'.matches w = true := by
  intro r' hr' hm
  obtain rfl : r' = r := row_eq_of_opcodeByte hr' hr ((opcodeByte_of_matches hr' hm).symm.trans hbyte.symm)
  exact absurd ((matches_iff_format hr' w).1 hm).2 (not_lt.2 hwide)

/-- A word is rejected for a reserved bit where a row has its opcode and its operand bits do not fit that row's format (R59). -/
theorem reservedBits_iff (w : Word) :
    (∃ op, decodeWord w = .error (.reservedBits op)) ↔
      ∃ f ∈ opcodeTable.map Row.format, f.1 = w.toNat / 2 ^ 24 ∧ 2 ^ f.2 ≤ w.toNat % 2 ^ 24 := by
  simp only [List.mem_map, exists_exists_and_eq_and, ← opcodeByte_pattern_eq_iff]
  constructor
  · rintro ⟨op, h⟩
    obtain ⟨hnone, hwhy⟩ := decodeWord_eq_error_iff.1 h
    by_cases hassigned : ∃ r ∈ opcodeTable, opcodeByte r.pattern = opcodeByte w
    · obtain ⟨r, hr, hbyte⟩ := hassigned
      have hwide : ¬ w.toNat % 2 ^ 24 < 2 ^ r.format.2 := fun hfit =>
        hnone r hr ((matches_iff_format hr w).2 ⟨opcodeByte_pattern_eq_iff.1 hbyte, hfit⟩)
      exact ⟨r, hr, hbyte, not_lt.1 hwide⟩
    · have hunassigned : ∀ r ∈ opcodeTable, opcodeByte r.pattern ≠ opcodeByte w := fun r hr hbyte =>
        hassigned ⟨r, hr, hbyte⟩
      cases (rejection_of_unassigned hunassigned).symm.trans hwhy
  · rintro ⟨r, hr, hbyte, hwide⟩
    exact ⟨_, decodeWord_eq_error_iff.2
      ⟨no_match_of_operands_too_wide hr hbyte hwide, rejection_of_assigned ⟨r, hr, hbyte⟩⟩⟩

/-- Settles O3: the nine formats, against the word's opcode byte and operand bits in numbers (R59, R60). -/
theorem rejectionNamesItsReason : Obligations.RejectionNamesItsReason := by
  intro w
  rw [unassignedOpcode_iff, reservedBits_iff, map_format_opcodeTable]
  simp only [List.forall_mem_cons, List.exists_mem_cons_iff, List.not_mem_nil, false_implies, implies_true, false_and,
    exists_false, and_true, or_false]
  omega

end Sys2Proof
end

section
/-! What a typed line of text becomes (30_encoding.md R57, 20_memory.md R47), and what the stream's front end makes of encoded
operations (R50, R61). -/

namespace Sys2Proof.Machine

/-! ### The digits of a line of text -/

theorem charDigit?_digitChar (d : Fin 10) : charDigit? (Nat.digitChar d) = some (BitVec.ofNat 4 d) := by
  revert d
  decide

/-- Text without a digit is skipped (R57). -/
theorem filterMap_charDigit?_of_no_digit {text : List Char} (h : ∀ ch ∈ text, ch.isDigit = false) :
    text.filterMap charDigit? = [] :=
  List.filterMap_eq_nil_iff.2 fun ch hch => by simp [charDigit?, h ch hch]

/-- The first four digits of a text are its digits, whatever stands between them and after the fourth (R57). -/
theorem lineDigits_of_four (a b c d : Fin 10) {x1 x2 x3 x4 : List Char} (rest : List Char)
    (h1 : ∀ ch ∈ x1, ch.isDigit = false) (h2 : ∀ ch ∈ x2, ch.isDigit = false) (h3 : ∀ ch ∈ x3, ch.isDigit = false)
    (h4 : ∀ ch ∈ x4, ch.isDigit = false) :
    lineDigits
        (x1 ++ Nat.digitChar a :: x2 ++ Nat.digitChar b :: x3 ++ Nat.digitChar c :: x4 ++ Nat.digitChar d :: rest)
      = [BitVec.ofNat 4 a, BitVec.ofNat 4 b, BitVec.ofNat 4 c, BitVec.ofNat 4 d] := by
  simp [lineDigits, charDigit?_digitChar, filterMap_charDigit?_of_no_digit h1, filterMap_charDigit?_of_no_digit h2,
    filterMap_charDigit?_of_no_digit h3, filterMap_charDigit?_of_no_digit h4]

/-! ### The digits in their nibbles -/

/-- One more digit comes in at the low end of the packed digits (R57). -/
theorem nibble_zero_shiftIn (dg : BitVec 16) (d : BitVec 4) : nibble (dg <<< 4 ||| d.setWidth 16) 0 = d := by
  refine BitVec.eq_of_getLsbD_eq fun k hk => ?_
  have hk16 : k < 16 := by omega
  simp [nibble, hk, hk16]

/-- The digits packed before it move up by one nibble. -/
theorem nibble_succ_shiftIn (dg : BitVec 16) (d : BitVec 4) {k : Nat} (hk : k < 3) :
    nibble (dg <<< 4 ||| d.setWidth 16) (k + 1) = nibble dg k := by
  refine BitVec.eq_of_getLsbD_eq fun j hj => ?_
  have hlow : 4 * (k + 1) + j < 16 := by omega
  have habove : ¬4 * (k + 1) + j < 4 := by omega
  have hpos : 4 * (k + 1) + j - 4 = 4 * k + j := by omega
  have hdigit : d.getLsbD (4 * (k + 1) + j) = false := BitVec.getLsbD_of_ge d _ (by omega)
  simp only [nibble, BitVec.getLsbD_extractLsb', BitVec.getLsbD_or, BitVec.getLsbD_shiftLeft, BitVec.getLsbD_setWidth,
    hlow, habove, hpos, hdigit, decide_true, decide_false, Bool.not_false, Bool.true_and, Bool.and_false, Bool.or_false]

/-- Settles O7: the text is reduced to the four digits, and each digit that comes in moves the ones before it up (R57, R47). -/
theorem enteredDigitsArePositional : Obligations.EnteredDigitsArePositional := by
  intro a b c d x1 x2 x3 x4 rest hskip
  simp only [List.mem_append, or_imp, forall_and] at hskip
  obtain ⟨⟨⟨h1, h2⟩, h3⟩, h4⟩ := hskip
  rw [lineOperands, lineDigits_of_four a b c d rest h1 h2 h3 h4]
  refine ⟨rfl, fun dg hdg => ?_⟩
  have hvalue : ∀ x : Fin 10, (BitVec.ofNat 4 x).toNat = x := fun x => port_toNat (by omega)
  simp only [hdg, List.foldl_cons, List.foldl_nil, nibble_zero_shiftIn, hvalue,
    nibble_succ_shiftIn _ _ (show 2 < 3 by decide), nibble_succ_shiftIn _ _ (show 1 < 3 by decide),
    nibble_succ_shiftIn _ _ (show 0 < 3 by decide), and_self]

/-! ### Loading a stream and taking its next word -/

theorem State.load_of_ok (s : State) {bytes : List Byte} {ops : List Instr} (h : decodeStream 0 bytes = .ok ops) :
    s.load bytes = .next { s with stream := bytes, wordIndex := 0 } := by
  simp [State.load, h]

theorem State.load_of_error (s : State) {bytes : List Byte} {e : StreamError} (h : decodeStream 0 bytes = .error e) :
    s.load bytes = .refused (StreamError.toRefusal e) := by
  simp [State.load, h]

/-- Settles O10: loading asks the stream decoder, which decodes the byte forms of operation lists and nothing else (R61). -/
theorem loadAcceptsExactlyValidStreams : Obligations.LoadAcceptsExactlyValidStreams := by
  intro s bytes
  constructor
  · rintro ⟨ops, hbytes⟩
    exact s.load_of_ok ((streamDecodingInvertsStreamEncoding 0 bytes ops).2 hbytes)
  · rintro ⟨t, ht⟩
    cases h : decodeStream 0 bytes with
    | ok ops => exact ⟨ops, (streamDecodingInvertsStreamEncoding 0 bytes ops).1 h⟩
    | error e => cases (s.load_of_error h).symm.trans ht

/-- Settles O8: the fetch takes the encoded word, which decodes to its operation (R50). -/
theorem stepPerformsTheNextWord : Obligations.StepPerformsTheNextWord := fun _ i _ hs =>
  step_of_fetch_ok (State.fetch_valid hs (decodeWord_encode i))

end Sys2Proof.Machine
end

section
/-! The detector (40_debounce_gesture.md): what a hold is classified as, and what a hold counter counts to. -/

namespace Sys2Proof.Machine

variable {p : Params}

/-- Settles O27: the two gestures of the classification ask for a nonzero count (R72), which a long press has as soon as its
threshold is at least 1 (R5). -/
theorem classificationOfAHold : Obligations.ClassificationOfAHold := by
  intro t threshold hthreshold
  have hnonzero : threshold ≤ t → t ≠ 0 := by omega
  exact ⟨classify_eq_idle t threshold,
    by rw [classify_eq_shortClick, Nat.pos_iff_ne_zero],
    by rw [classify_eq_longPress, and_iff_right_of_imp hnonzero]⟩

/-- Asserted samples one after another add up from any count, until the counter saturates (R71). -/
theorem foldl_holdStep_asserted_ticks (threshold c : Nat) (hc : HoldCounter p) :
    ((List.replicate c true).foldl (fun h a => (holdStep h a threshold).hc) hc).ticks.val
      = min (hc.ticks.val + c) p.holdMax := by
  induction c generalizing hc with
  | zero => exact (Nat.min_eq_left (Nat.le_of_lt_succ hc.ticks.isLt)).symm
  | succ c ih =>
    rw [List.replicate_succ, List.foldl_cons, ih, holdStep_asserted, satTick_val]
    omega

/-- Settles O28: the two kinds of sample are the two branches of `holdStep`; from an idle counter the count is the number of
asserted samples. -/
theorem holdCountsAndClassifiesOnRelease : Obligations.HoldCountsAndClassifiesOnRelease := by
  intro p threshold c hc
  have hcount := foldl_holdStep_asserted_ticks threshold c (HoldCounter.zero p)
  rw [show (HoldCounter.zero p).ticks.val = 0 from rfl, Nat.zero_add] at hcount
  rw [holdStep_asserted, holdStep_released]
  exact ⟨rfl, satTick_val hc.ticks, rfl, rfl, rfl, rfl, rfl, hcount⟩

end Sys2Proof.Machine
end

section
/-! The duty-cycle generator (41_pwm_breathing.md): what one `FTICK` does to it, what any number of them do in a row, and the
waveforms that follow from that. -/

namespace Sys2Proof.Machine

open Sys2Proof.Safety

variable {p : Params}

/-! ### One fast tick -/

/-- The state after one `FTICK`. -/
def State.ftick (s : State) : State := s.withBlock s.blk.fastTick

theorem exec_ftick (s : State) : exec .ftick s = .next s.ftick := rfl

@[simp] theorem State.ftick_gen (s : State) : s.ftick.blk.gen = s.blk.gen.tick s.blk.ctl.breathe := rfl

@[simp] theorem State.ftick_ctl (s : State) : s.ftick.blk.ctl = s.blk.ctl := rfl

theorem Control.breathe_of_waiting {c : Control p} (h : c.state = .waiting) : c.breathe = true := decide_eq_true h

theorem Control.breathe_of_not_waiting {c : Control p} (h : c.state ≠ .waiting) : c.breathe = false := decide_eq_false h

/-- At the default parameters a ramp interval ends where `rampCount` is 149 (R88). -/
theorem atTop_rampCount (g : Generator Config.params) : atTop g.rampCount = true ↔ g.rampCount.val = 149 :=
  (atTop_iff _).trans (Nat.succ_inj (b := 149))

/-- Settles O21. -/
theorem ftickComparesThenAdvances : Obligations.FtickComparesThenAdvances := fun s =>
  ⟨s.ftick, exec_ftick s, rfl, wrapNext_val s.blk.gen.counter, rfl⟩

/-- The clamped sum of R89. -/
theorem rampTarget_val_eq_clamp (t : Fin (p.period + 1)) (d : RampDir) :
    ((rampTarget t d).val : Int) = max 0 (min (p.period : Int) (t.val + if d = .up then 1 else -1)) := by
  rw [rampTarget_val]
  cases d <;> simp <;> omega

/-- Settles O22: the three clauses are the three things that a fast tick can do to the ramp. -/
theorem ftickRampsInWaitingOnly : Obligations.FtickRampsInWaitingOnly := by
  intro s
  refine ⟨s.ftick, exec_ftick s, fun hw h149 => ?_, fun hw h149 => ?_, fun hw => ?_⟩
  · obtain ⟨htarget, hstep, hcount⟩ := Generator.tick_ramps ((atTop_rampCount _).2 h149)
    rw [State.ftick_gen, Control.breathe_of_waiting hw, htarget, hstep]
    exact ⟨hcount, rampTarget_val_eq_clamp _ _, rfl⟩
  · have hbelow : atTop s.blk.gen.rampCount = false := by rwa [← Bool.not_eq_true, atTop_rampCount]
    obtain ⟨htarget, hstep, hcount⟩ := Generator.tick_counts hbelow
    rw [State.ftick_gen, Control.breathe_of_waiting hw]
    exact ⟨hcount, htarget, hstep⟩
  · obtain ⟨htarget, hstep, hcount⟩ := s.blk.gen.tick_inert
    rw [State.ftick_gen, Control.breathe_of_not_waiting hw]
    exact ⟨hcount, htarget, hstep⟩

/-- In `Waiting` the slow part of a derived tick leaves the generator as the fast part left it (R117). -/
theorem Block.derivedTick_gen_of_waiting {b : Block p} (hw : b.ctl.state = .waiting) :
    b.derivedTick.gen = b.fastTick.gen := by
  cases ht : atTop b.slowDiv
  case true =>
    rw [Block.derivedTick_slow ht]
    exact Block.slowTick_gen_of_waiting hw
  case false => rw [Block.derivedTick_fast ht]

/-- Settles O20: the slow part leaves the target in `Waiting`, and only the ramp step of `Waiting` writes it in the fast part
(`ftickRampsInWaitingOnly`). -/
theorem tickWritesTargetAtMostOnce : Obligations.TickWritesTargetAtMostOnce := by
  intro s u t hu ht
  obtain ⟨u', hu', -, hcounts, hinert⟩ := ftickRampsInWaitingOnly s
  cases hu.symm.trans hu'
  cases hu
  cases ht
  refine ⟨fun hw => congrArg Generator.target (Block.derivedTick_gen_of_waiting hw), fun hno => ?_⟩
  by_cases hw : s.blk.ctl.state = .waiting
  · obtain ⟨-, htarget, -⟩ := hcounts hw fun h149 => hno ⟨hw, h149⟩
    exact htarget
  · obtain ⟨-, htarget, -⟩ := hinert hw
    exact htarget

/-! ### The ramp step (R89) -/

/-- At the top the direction is down. -/
theorem rampDir_of_top {t : Fin (p.period + 1)} (d : RampDir) (h : t.val = p.period) : rampDir t d = .down := if_pos h

/-- At 0 the direction is up: `PERIOD` is at least 1 (R5), so 0 is not the top too. -/
theorem rampDir_of_bottom {t : Fin (p.period + 1)} (d : RampDir) (h : t.val = 0) : rampDir t d = .up := by
  have hpos : t.val ≠ p.period := by
    have := p.period_pos
    omega
  rw [rampDir, if_neg hpos, if_pos h]

/-- Away from both bounds a ramp step keeps its direction. -/
theorem rampDir_of_inside {t : Fin (p.period + 1)} (d : RampDir) (h0 : t.val ≠ 0) (hp : t.val ≠ p.period) :
    rampDir t d = d := by rw [rampDir, if_neg hp, if_neg h0]

/-- From wherever a ramp step leads, its direction leads back into the range. -/
theorem rampDir_stays_in_range (t : Fin (p.period + 1)) (d : RampDir) :
    (0 : Int) ≤ t.val + (rampDir t d).toInt ∧ t.val + (rampDir t d).toInt ≤ p.period := by
  have hpos := p.period_pos
  have hle : t.val ≤ p.period := Nat.le_of_lt_succ t.isLt
  by_cases hp : t.val = p.period
  · rw [rampDir_of_top d hp, RampDir.toInt]
    omega
  · by_cases h0 : t.val = 0
    · rw [rampDir_of_bottom d h0, RampDir.toInt]
      omega
    · rw [rampDir_of_inside d h0 hp]
      cases d <;> simp only [RampDir.toInt] <;> omega

/-- Settles O23. -/
theorem rampReversesOnlyAtTheBounds : Obligations.RampReversesOnlyAtTheBounds := by
  intro p g
  refine ⟨fun hne => ?_, rampDir_stays_in_range (rampTarget g.target g.step) g.step⟩
  by_contra! hinside
  obtain ⟨h0, hp⟩ := hinside
  exact hne (rampDir_of_inside g.step h0 hp)

/-! ### Fast ticks in a row -/

theorem perform_replicate_ftick (n : Nat) (s : State) :
    perform (List.replicate n .ftick) s = .next (State.ftick^[n] s) := by
  induction n generalizing s with
  | zero => rfl
  | succ n ih => exact ih s.ftick

theorem trace_replicate_ftick (n : Nat) (s : State) :
    trace (List.replicate n .ftick) s = (List.range n).map (fun k => State.ftick^[k + 1] s) := by
  induction n generalizing s with
  | zero => rfl
  | succ n ih =>
    rw [List.range_succ_eq_map, List.map_cons, List.map_map]
    exact congrArg (s.ftick :: ·) (ih s.ftick)

/-- Fast ticks in a row see the same `state` at each one, since they leave the control domain alone (R85). -/
theorem State.ftick_iterate (n : Nat) (s : State) :
    (State.ftick^[n] s).blk.ctl = s.blk.ctl ∧
      (State.ftick^[n] s).blk.gen = (Generator.tick · s.blk.ctl.breathe)^[n] s.blk.gen := by
  induction n with
  | zero => exact ⟨rfl, rfl⟩
  | succ n ih =>
    obtain ⟨hctl, hgen⟩ := ih
    simp only [Function.iterate_succ_apply', State.ftick_ctl, State.ftick_gen, hctl, hgen, and_self]

theorem Generator.tick_iterate_counter (g : Generator p) (breathe : Bool) (n : Nat) :
    ((Generator.tick · breathe)^[n] g).counter.val = (g.counter.val + n) % p.period := by
  induction n with
  | zero => exact (Nat.mod_eq_of_lt g.counter.isLt).symm
  | succ n ih =>
    rw [Function.iterate_succ_apply', Generator.tick_counter, wrapNext_val, ih, Nat.mod_add_mod, Nat.add_assoc]

theorem State.ftick_iterate_counter (n : Nat) (s : State) :
    (State.ftick^[n] s).blk.gen.counter.val = (s.blk.gen.counter.val + n) % 5 := by
  rw [(State.ftick_iterate n s).2]
  exact Generator.tick_iterate_counter _ _ n

/-- Outside `Waiting` fast ticks never write the target (R88). -/
theorem State.ftick_iterate_target_of_not_waiting {s : State} (hw : s.blk.ctl.state ≠ .waiting) (n : Nat) :
    (State.ftick^[n] s).blk.gen.target = s.blk.gen.target := by
  induction n with
  | zero => rfl
  | succ n ih =>
    have hbreathe : (State.ftick^[n] s).blk.ctl.breathe = false := by
      rw [(State.ftick_iterate n s).1, Control.breathe_of_not_waiting hw]
    rw [Function.iterate_succ_apply', State.ftick_gen, hbreathe, ← ih]
    exact (Generator.tick_inert _).1

/-! ### The duty of a period (R86, R87, R183) -/

/-- The levels of the indicator over ticks that all see the same target: at each one the counter stands one further (R86). -/
theorem map_pwmOut_trace_ftick {s : State} {n : Nat}
    (h : ∀ k < n, (State.ftick^[k] s).blk.gen.target = s.blk.gen.target) :
    (trace (List.replicate n .ftick) s).map (fun t => t.blk.gen.pwmOut)
      = (List.range n).map (fun k => decide ((s.blk.gen.counter.val + k) % 5 < s.blk.gen.target.val)) := by
  rw [trace_replicate_ftick, List.map_map]
  refine List.map_congr_left fun k hk => ?_
  rw [Function.comp_apply, Function.iterate_succ_apply', State.ftick_gen, Generator.tick_pwmOut,
    State.ftick_iterate_counter, h k (List.mem_range.1 hk)]

theorem activeTicks_eq_count {s : State} {n : Nat}
    (h : ∀ k < n, (State.ftick^[k] s).blk.gen.target = s.blk.gen.target) :
    activeTicks (trace (List.replicate n .ftick) s)
      = Nat.count (fun k => (s.blk.gen.counter.val + k) % 5 < s.blk.gen.target.val) n := by
  rw [activeTicks, map_pwmOut_trace_ftick h, List.count, List.countP_map, Nat.count]
  simp [Function.comp_def]

/-- Of `n` counter values from `c` on that lie inside one period, those below `t`: all below `t`, less the ones before `c`. -/
theorem count_below_of_within {c n m : Nat} (t : Nat) (h : c + n ≤ m) :
    Nat.count (fun k => (c + k) % m < t) n + min c t = min (c + n) t := by
  induction n with
  | zero => simp
  | succ n ih =>
    have hmod : (c + n) % m = c + n := Nat.mod_eq_of_lt (by omega)
    have hn := ih (by omega)
    rw [Nat.count_succ, hmod]
    split <;> omega

/-- A whole period holds each counter value once, wherever it starts: what the shift takes away at its start comes back at its
end. -/
theorem count_below_of_period (c : Nat) {m t : Nat} (h : t ≤ m) : Nat.count (fun k => (c + k) % m < t) m = t := by
  have hstart : Nat.count (fun k => k % m < t) m = t := by
    simpa [h] using count_below_of_within t (Nat.zero_add m).le
  have hshift := Nat.count_add (fun k => k % m < t) c m
  have hperiod := Nat.count_add (fun k => k % m < t) m c
  simp only [Nat.add_mod_left] at hperiod
  rw [Nat.add_comm m c] at hperiod
  omega

/-- Settles O24: each of the five ticks compares a counter value of its own with the one target. -/
theorem dutyOverOnePeriod : Obligations.DutyOverOnePeriod := by
  intro s hsame
  have htarget : ∀ k < 5, (State.ftick^[k] s).blk.gen.target = s.blk.gen.target := by
    rintro (_ | k) hk
    · rfl
    · refine hsame _ ?_
      rw [trace_replicate_ftick]
      exact List.mem_map_of_mem (List.mem_range.2 (by omega))
  refine ⟨by rw [trace_replicate_ftick, List.length_map, List.length_range], ?_, fun hzero => ?_⟩
  · rw [activeTicks_eq_count htarget]
    exact count_below_of_period _ (Nat.le_of_lt_succ s.blk.gen.target_lt)
  · rw [map_pwmOut_trace_ftick htarget]
    refine List.map_congr_left fun k hk => ?_
    rw [hzero, Nat.zero_add, Nat.mod_eq_of_lt (List.mem_range.1 hk)]

/-- Outside `Waiting`, ticks that stay inside one period drive the indicator active where the counter is below the target. -/
theorem activeTicks_within_period {s : State} {n : Nat} (hw : s.blk.ctl.state ≠ .waiting)
    (h : s.blk.gen.counter.val + n ≤ 5) :
    activeTicks (trace (List.replicate n .ftick) s) + min s.blk.gen.counter.val s.blk.gen.target.val
      = min (s.blk.gen.counter.val + n) s.blk.gen.target.val := by
  rw [activeTicks_eq_count fun k _ => State.ftick_iterate_target_of_not_waiting hw k]
  exact count_below_of_within _ h

/-- Settles O25: before the write the counter values below `k` meet the old target, after it the others meet the new one. -/
theorem midPeriodWriteStaysBetween : Obligations.MidPeriodWriteStaysBetween := by
  intro s u k t2 hw hzero hk hu n hn
  rw [perform_replicate_ftick] at hu
  injection hu with hu
  have hcounter : u.blk.gen.counter.val = k ∨ (k = 5 ∧ u.blk.gen.counter.val = 0) := by
    rw [← hu, State.ftick_iterate_counter, hzero]
    omega
  have hstate : u.blk.ctl.state ≠ .waiting := by rwa [← hu, (State.ftick_iterate k s).1]
  have hold := activeTicks_within_period (n := k) hw (by omega)
  have hnew : activeTicks (trace (List.replicate (5 - k) .ftick) { u with blk.gen.target := t2 })
      + min u.blk.gen.counter.val t2.val = min (u.blk.gen.counter.val + (5 - k)) t2.val :=
    activeTicks_within_period hstate (by simp only; omega)
  have hlt := s.blk.gen.target_lt
  have hlt2 := t2.isLt
  omega

/-! ### The breathing waveform (R90) -/

/-- In `Waiting`, fast ticks that stay inside a ramp interval count, and leave the target and the direction (R88). -/
theorem Generator.tick_iterate_counts {g : Generator p} {n : Nat} (h : g.rampCount.val + n < p.rampDiv) :
    ((Generator.tick · true)^[n] g).target = g.target ∧ ((Generator.tick · true)^[n] g).step = g.step ∧
      ((Generator.tick · true)^[n] g).rampCount.val = g.rampCount.val + n := by
  induction n with
  | zero => exact ⟨rfl, rfl, rfl⟩
  | succ n ih =>
    obtain ⟨htarget, hstep, hcount⟩ := ih (by omega)
    have hbelow : atTop ((Generator.tick · true)^[n] g).rampCount = false := by
      rw [← Bool.not_eq_true, atTop_iff]
      omega
    obtain ⟨htarget', hstep', hcount'⟩ := Generator.tick_counts hbelow
    rw [Function.iterate_succ_apply']
    exact ⟨htarget'.trans htarget, hstep'.trans hstep, by omega⟩

/-- A whole interval of fast ticks in `Waiting` is one ramp step (R88). -/
theorem Generator.tick_iterate_ramps {g : Generator p} (h : g.rampCount.val = 0) :
    ((Generator.tick · true)^[p.rampDiv] g).target = g.rampStep.target ∧
      ((Generator.tick · true)^[p.rampDiv] g).step = g.rampStep.step ∧
      ((Generator.tick · true)^[p.rampDiv] g).rampCount.val = 0 := by
  obtain ⟨n, hn⟩ := Nat.exists_eq_add_of_le' p.rampDiv_pos
  obtain ⟨htarget, hstep, hcount⟩ := Generator.tick_iterate_counts (g := g) (n := n) (by omega)
  have htop : atTop ((Generator.tick · true)^[n] g).rampCount = true := by
    rw [atTop_iff]
    omega
  have hramp := Generator.tick_ramps htop
  rwa [htarget, hstep, ← Function.iterate_succ_apply' (Generator.tick · true), Nat.succ_eq_add_one, ← hn] at hramp

/-- The triangle of period 10 between 0 and 5, by the number of the ramp step. -/
def rampTriangle (k : Nat) : Nat := if k % 10 ≤ 5 then k % 10 else 10 - k % 10

/-- The direction of the triangle's slope from the ramp step `k` to the next one. -/
def rampSlope (k : Nat) : RampDir := if k % 10 < 5 then .up else .down

/-- A ramp step along the slope leads to the triangle's next value. -/
theorem rampTarget_rampTriangle {t : Fin (Config.params.period + 1)} {k : Nat} (h : t.val = rampTriangle k) :
    (rampTarget t (rampSlope k)).val = rampTriangle (k + 1) := by
  rw [rampTarget_val, h, params_period]
  by_cases hup : k % 10 < 5
  · simp only [rampSlope, hup, if_true, rampTriangle]
    split <;> split <;> omega
  · simp only [rampSlope, hup, if_false, rampTriangle]
    split <;> split <;> omega

/-- The direction turns where the triangle's slope does. -/
theorem rampDir_rampSlope {t : Fin (Config.params.period + 1)} {k : Nat} (h : t.val = rampTriangle (k + 1)) :
    rampDir t (rampSlope k) = rampSlope (k + 1) := by
  by_cases htop : (k + 1) % 10 = 5
  · have ht : t.val = 5 := by simp [h, rampTriangle, htop]
    rw [rampDir_of_top _ ht, rampSlope, if_neg (by omega)]
  · by_cases hbottom : (k + 1) % 10 = 0
    · have ht : t.val = 0 := by simp [h, rampTriangle, hbottom]
      rw [rampDir_of_bottom _ ht, rampSlope, if_pos (by omega)]
    · have hsame : (k + 1) % 10 < 5 ↔ k % 10 < 5 := by omega
      obtain ⟨h0, h5⟩ : t.val ≠ 0 ∧ t.val ≠ 5 := by
        rw [h, rampTriangle]
        split <;> omega
      rw [rampDir_of_inside _ h0 h5, rampSlope, rampSlope, if_congr hsame rfl rfl]

/-- `150 k` fast ticks in `Waiting` are `k` ramp steps along the triangle. -/
theorem Generator.tick_iterate_triangle {g : Generator Config.params} (htarget : g.target.val = 0) (hstep : g.step = .up)
    (hcount : g.rampCount.val = 0) (k : Nat) :
    ((Generator.tick · true)^[150 * k] g).target.val = rampTriangle k ∧
      ((Generator.tick · true)^[150 * k] g).step = rampSlope k ∧
      ((Generator.tick · true)^[150 * k] g).rampCount.val = 0 := by
  rw [Function.iterate_mul]
  induction k with
  | zero => exact ⟨htarget, hstep, hcount⟩
  | succ k ih =>
    obtain ⟨iht, ihs, ihc⟩ := ih
    obtain ⟨ht, hs, hc⟩ := Generator.tick_iterate_ramps ihc
    have htriangle := rampTarget_rampTriangle iht
    rw [Function.iterate_succ_apply']
    rw [Generator.rampStep, ihs] at ht hs
    exact ⟨(congrArg Fin.val ht).trans htriangle, hs.trans (rampDir_rampSlope htriangle), hc⟩

/-- Settles O26: `RST` leaves the generator at the foot of the triangle, in `Waiting`. -/
theorem breathingIsATriangle : Obligations.BreathingIsATriangle := by
  intro s k
  obtain ⟨hctl, hgen⟩ := State.ftick_iterate (150 * k) (s.withBlock s.blk.restart)
  obtain ⟨htarget, hstep, hcount⟩ :=
    Generator.tick_iterate_triangle (g := Generator.reset Config.params) rfl rfl rfl k
  refine ⟨State.ftick^[150 * k] (s.withBlock s.blk.restart), perform_replicate_ftick _ _, ?_, ?_, ?_, ?_, ?_⟩
  · exact (congrArg (·.target.val) hgen).trans htarget
  · exact (congrArg (·.step) hgen).trans hstep
  · exact (congrArg (·.rampCount.val) hgen).trans hcount
  · rw [State.ftick_iterate_counter]
    have hzero : (s.withBlock s.blk.restart).blk.gen.counter.val = 0 := rfl
    omega
  · exact congrArg Control.state hctl

end Sys2Proof.Machine
end

section
/-! The countdown engine (42_countdown_engine.md): the decrement, the parse of a time entry, `LINE`, and the ticks of a paused
countdown. -/

namespace Sys2Proof.Machine

open Sys2Proof.Safety

variable {p : Params}

/-! ### The decrement (R101, R102) -/

theorem Duration.decrement_of_seconds {d : Duration p} (h : d.seconds.val ≠ 0) :
    d.decrement.minutes = d.minutes ∧ d.decrement.seconds.val = d.seconds.val - 1 := by
  simp [Duration.decrement, h]

theorem Duration.decrement_borrows {d : Duration p} (hs : d.seconds.val = 0) (hm : d.minutes.val ≠ 0) :
    d.decrement.minutes.val = d.minutes.val - 1 ∧ d.decrement.seconds.val = 59 := by
  simp [Duration.decrement, hs, hm]

theorem Duration.decrement_of_zero {d : Duration p} (hs : d.seconds.val = 0) (hm : d.minutes.val = 0) :
    d.decrement = d := by
  obtain ⟨minutes, seconds⟩ := d
  have hminutes : minutes = 0 := Fin.ext hm
  have hseconds : seconds = 0 := Fin.ext hs
  simp [Duration.decrement, hminutes, hseconds, Duration.zero]

theorem Duration.decrement_seconds_le {d : Duration p} (h : d.seconds.val ≤ 59) : d.decrement.seconds.val ≤ 59 := by
  by_cases hs : d.seconds.val = 0
  · by_cases hm : d.minutes.val = 0
    · rwa [Duration.decrement_of_zero hs hm]
    · exact (Duration.decrement_borrows hs hm).2.le
  · obtain ⟨-, hdec⟩ := Duration.decrement_of_seconds hs
    omega

/-- Settles O29: the first three clauses are the three branches of the decrement. -/
theorem decrementBorrows : Obligations.DecrementBorrows := fun _ d =>
  ⟨Duration.decrement_of_seconds, Duration.decrement_borrows, Duration.decrement_of_zero, d.decrement_complete_iff,
    Duration.decrement_seconds_le⟩

/-- Each decrement takes one second off the total, down to 0. -/
theorem Duration.decrement_iterate_total (d : Duration p) (k : Nat) :
    60 * (Duration.decrement^[k] d).minutes.val + (Duration.decrement^[k] d).seconds.val
      = 60 * d.minutes.val + d.seconds.val - k := by
  induction k with
  | zero => rfl
  | succ k ih => rw [Function.iterate_succ_apply', Duration.decrement_total, ih, Nat.sub_sub]

/-- Settles O30: a duration is complete where no second of its total is left. -/
theorem durationCompletesOnTime : Obligations.DurationCompletesOnTime := by
  intro d k hpos hle
  have htotal := d.decrement_iterate_total k
  rw [Duration.complete_iff]
  omega

/-! ### The parse of a time entry (R103) -/

theorem nibble_toNat (dg : BitVec 16) (k : Nat) : (nibble dg k).toNat = dg.toNat / 16 ^ k % 16 := by
  simp [nibble, Nat.shiftRight_eq_div_pow, pow_mul]

/-- A nibble holds a digit exactly where its value is one (R57). -/
theorem digit?_eq_some_iff {x : BitVec 4} {d : Fin 10} : digit? x = some d ↔ x.toNat = d.val := by
  unfold digit?
  split
  · rw [Option.some_inj, Fin.ext_iff]
  · simp only [reduceCtorEq, false_iff]
    omega

theorem digit?_of_le {x : BitVec 4} (h : x.toNat ≤ 9) : digit? x = some ⟨x.toNat, Nat.lt_succ_of_le h⟩ :=
  digit?_eq_some_iff.2 rfl

theorem toNat_le_of_digit? {x : BitVec 4} {d : Fin 10} (h : digit? x = some d) : x.toNat ≤ 9 :=
  (digit?_eq_some_iff.1 h).trans_le (Nat.le_of_lt_succ d.isLt)

/-- `MMSS`: four digits (R103). -/
theorem parseDigits_four {n : BitVec 3} {dg : BitVec 16} {d3 d2 d1 d0 : Fin 10} (hn : n = 4)
    (h3 : digit? (nibble dg 3) = some d3) (h2 : digit? (nibble dg 2) = some d2) (h1 : digit? (nibble dg 1) = some d1)
    (h0 : digit? (nibble dg 0) = some d0) : parseDigits n dg = some (twoDigits d3 d2, twoDigits d1 d0) := by
  rw [parseDigits, hn, h3, h2, h1, h0]
  rfl

/-- `MSS`: the nibble before the three digits does not count (R103). -/
theorem parseDigits_three {n : BitVec 3} {dg : BitVec 16} {d2 d1 d0 : Fin 10} (hn : n = 3)
    (h2 : digit? (nibble dg 2) = some d2) (h1 : digit? (nibble dg 1) = some d1) (h0 : digit? (nibble dg 0) = some d0) :
    parseDigits n dg = some (twoDigits 0 d2, twoDigits d1 d0) := by
  rw [parseDigits, hn, h2, h1, h0]
  rfl

/-- `SS`: the two nibbles before the two digits do not count (R103). -/
theorem parseDigits_two {n : BitVec 3} {dg : BitVec 16} {d1 d0 : Fin 10} (hn : n = 2)
    (h1 : digit? (nibble dg 1) = some d1) (h0 : digit? (nibble dg 0) = some d0) :
    parseDigits n dg = some (0, twoDigits d1 d0) := by
  rw [parseDigits, hn, h1, h0]
  rfl

/-- Digits that parse are two, three or four, and all that count are digits (R103). -/
theorem parseDigits_eq_some_cases {n : BitVec 3} {dg : BitVec 16} {r : Fin 100 × Fin 100}
    (h : parseDigits n dg = some r) :
    ((n = 4 ∧ (nibble dg 3).toNat ≤ 9 ∧ (nibble dg 2).toNat ≤ 9) ∨ (n = 3 ∧ (nibble dg 2).toNat ≤ 9) ∨ n = 2) ∧
      (nibble dg 1).toNat ≤ 9 ∧ (nibble dg 0).toNat ≤ 9 := by
  unfold parseDigits at h
  split at h
  next hn h3 h2 h1 h0 =>
    exact ⟨.inl ⟨BitVec.eq_of_toNat_eq hn, toNat_le_of_digit? h3, toNat_le_of_digit? h2⟩, toNat_le_of_digit? h1,
      toNat_le_of_digit? h0⟩
  next hn h2 h1 h0 =>
    exact ⟨.inr (.inl ⟨BitVec.eq_of_toNat_eq hn, toNat_le_of_digit? h2⟩), toNat_le_of_digit? h1, toNat_le_of_digit? h0⟩
  next hn h1 h0 =>
    exact ⟨.inr (.inr (BitVec.eq_of_toNat_eq hn)), toNat_le_of_digit? h1, toNat_le_of_digit? h0⟩
  next => cases h

theorem parseDuration_of_some {n : BitVec 3} {dg : BitVec 16} {m v : Fin 100} (h : parseDigits n dg = some (m, v)) :
    (parseDuration Config.params n dg).minutes.val = m.val ∧
      (parseDuration Config.params n dg).seconds.val = min v.val 59 := by
  rw [parseDuration, h]
  exact ⟨rfl, rfl⟩

theorem parseDuration_of_none {n : BitVec 3} {dg : BitVec 16} (h : parseDigits n dg = none) :
    (parseDuration Config.params n dg).minutes.val = 0 ∧ (parseDuration Config.params n dg).seconds.val = 10 := by
  rw [parseDuration, h]
  exact ⟨rfl, rfl⟩

/-- Settles O31: one clause for each form that parses, and the default for everything that is none of them. -/
theorem timeEntryIsParsedByPosition : Obligations.TimeEntryIsParsedByPosition := by
  intro n dg d r hd hr
  have hnibble : ∀ k, d k = (nibble dg k).toNat := fun k => (hd k).trans (nibble_toNat dg k).symm
  simp only [hnibble, hr]
  refine ⟨fun hn h3 h2 h1 h0 => ?_, fun hn h2 h1 h0 => ?_, fun hn h1 h0 => ?_, fun hbad => ?_⟩
  · exact parseDuration_of_some
      (parseDigits_four hn (digit?_of_le h3) (digit?_of_le h2) (digit?_of_le h1) (digit?_of_le h0))
  · have hparse := parseDuration_of_some (parseDigits_three hn (digit?_of_le h2) (digit?_of_le h1) (digit?_of_le h0))
    simpa [twoDigits] using hparse
  · exact parseDuration_of_some (parseDigits_two hn (digit?_of_le h1) (digit?_of_le h0))
  · refine parseDuration_of_none (Option.eq_none_iff_forall_ne_some.2 fun parsed hparsed => ?_)
    have hgood := parseDigits_eq_some_cases hparsed
    bv_omega

/-! ### `LINE` (R104) -/

/-- Settles O32: the two clauses are `line_accepted` and `line_dropped`, by `acceptsLine_iff`. -/
theorem lineIsAcceptedAfterThePrompt : Obligations.LineIsAcceptedAfterThePrompt := by
  intro n dg s
  rw [← Control.acceptsLine_iff]
  constructor
  · intro haccepts
    rw [exec, execLine, Block.line_accepted n dg haccepts]
    rfl
  · intro hdrops
    rw [exec, execLine, Block.line_dropped n dg (Bool.eq_false_iff.2 hdrops)]
    rfl

/-! ### The ticks of a paused countdown (R105, R121 to R123) -/

theorem wrapNext_iterate_val {n : Nat} (c : Fin n) (k : Nat) : (wrapNext^[k] c).val = (c.val + k) % n := by
  induction k with
  | zero => exact (Nat.mod_eq_of_lt c.isLt).symm
  | succ k ih => rw [Function.iterate_succ_apply', wrapNext_val, ih, Nat.mod_add_mod, Nat.add_assoc]

theorem perform_replicate_stick (n : Nat) (s : State) :
    perform (List.replicate n .stick) s = .next (s.withBlock (Block.slowTick^[n] s.blk)) := by
  induction n generalizing s with
  | zero => rfl
  | succ n ih => exact ih (s.withBlock s.blk.slowTick)

/-- A countdown is paused, and nobody touches the pause button (R105). -/
structure Block.RestsPaused (b : Block p) : Prop where
  state : b.ctl.state = .countdown
  entered : b.ctl.entered = true
  paused : b.ctl.paused = true
  released : pressed b.pinBtn p.pauseBtn = false
  idle : b.ctl.hold.pau = HoldCounter.zero p

/-- An idle, released pause button leaves the block alone (R121). -/
theorem Block.countdownButton_idle {b : Block p} (hp : pressed b.pinBtn p.pauseBtn = false)
    (hidle : b.ctl.hold.pau = HoldCounter.zero p) : b.countdownButton = .goesOn b := by
  have hticks : b.ctl.hold.pau.ticks.val < p.settleTicks := by
    rw [hidle]
    exact p.settle_pos
  rw [Block.countdownButton_other hp hticks, ← hidle]

/-- Of the steps of a tick, a paused countdown takes the console command, the analog value and the tick accumulator. -/
theorem Block.RestsPaused.slowTick_eq {b : Block p} (h : b.RestsPaused) :
    b.slowTick = { b.quiet.countdownCommand.programTarget with ctl.tickAcc := wrapNext b.ctl.tickAcc } := by
  have hpaused : b.quiet.countdownCommand.programTarget.ctl.paused = true := by
    rw [Block.countdownCommand_eq]
    exact h.paused
  have hacc : b.quiet.countdownCommand.programTarget.ctl.tickAcc = b.ctl.tickAcc := by
    rw [Block.countdownCommand_eq]
    rfl
  rw [Block.slowTick_countdown h.state, Block.enter_of_entered (b := b.quiet) h.entered,
    Block.countdownBody_goesOn (Block.countdownButton_idle (b := b.quiet) h.released h.idle),
    Block.countdownSecond_counts (by simp [hpaused]), hacc]

theorem Block.RestsPaused.slowTick {b : Block p} (h : b.RestsPaused) : b.slowTick.RestsPaused := by
  rw [h.slowTick_eq, Block.countdownCommand_eq]
  exact ⟨h.state, h.entered, h.paused, h.released, h.idle⟩

/-- After the first tick no command is pending, so that each further tick advances the tick accumulator alone. -/
theorem Block.RestsPaused.slowTick_iterate {b : Block p} (h : b.RestsPaused) (k : Nat) :
    Block.slowTick^[k + 1] b
      = { b.quiet.countdownCommand.programTarget with ctl.tickAcc := wrapNext^[k + 1] b.ctl.tickAcc } := by
  induction k with
  | zero => exact h.slowTick_eq
  | succ k ih =>
    have hrests : (Block.slowTick^[k + 1] b).RestsPaused :=
      Function.Iterate.rec _ h (fun _ => Block.RestsPaused.slowTick) (k + 1)
    rw [Function.iterate_succ_apply', hrests.slowTick_eq, ih, Function.iterate_succ_apply' wrapNext (k + 1),
      Block.countdownCommand_eq, Block.countdownCommand_eq]
    simp only [Block.quiet_ctl, Block.programTarget_eq, Bool.false_eq_true, false_and, if_false]
    rfl

/-- Settles O46: the duration, the status output and the blink phase are none of the fields that `slowTick_iterate` writes. -/
theorem pauseFreezesTheDuration : Obligations.PauseFreezesTheDuration := by
  intro s k hstate hentered hpaused hreleased hidle
  have hpressed : pressed s.blk.pinBtn Config.params.pauseBtn = false := by
    rw [← Bool.not_eq_true, pressed_iff]
    simp [hreleased]
  have hrests : s.blk.RestsPaused := ⟨hstate, hentered, hpaused, hpressed, hidle⟩
  refine ⟨_, perform_replicate_stick (k + 1) s, ?_⟩
  rw [hrests.slowTick_iterate, Block.countdownCommand_eq]
  refine ⟨wrapNext_iterate_val _ _, rfl, ?_, rfl, rfl⟩
  refine (Block.programTarget_target _).trans ?_
  simp only [Control.darkPhase, Bool.and_eq_true, Bool.not_eq_true']
  rfl

end Sys2Proof.Machine
end

section
/-! One slow tick of the machine (43_fsm_controller.md R115). A first-entry action is an event and some writes to the control
domain, and the tick bodies read no event output, so that a first slow tick is the tick of a block that is already entered, with
the event. -/

namespace Sys2Proof.Machine

open Sys2Proof.Safety

variable {p : Params}

/-- The state after one `STICK`. -/
def State.stick (s : State) : State := s.withBlock s.blk.slowTick

theorem exec_stick (s : State) : exec .stick s = .next s.stick := rfl

theorem stick_eq_of_exec {s t : State} (h : exec .stick s = .next t) : s.stick = t := Host.Outcome.next.inj h

theorem perform_stick (n : Nat) (s : State) : perform (List.replicate n .stick) s = .next (State.stick^[n] s) := by
  have hcommutes : Function.Semiconj s.withBlock Block.slowTick State.stick := fun _ => rfl
  rw [perform_replicate_stick, hcommutes.iterate_right n s.blk]
  rfl

/-- A button is released exactly where its level is 1 (R8). -/
theorem pressed_eq_false_iff (pins : BitVec 3) (k : Fin 3) : pressed pins k = false ↔ pins.getLsbD k.val = true := by
  simp [pressed, buttonLevel]

/-! ### The tick of an entered state -/

theorem Block.slowTick_waiting_entered {b : Block p} (hs : b.ctl.state = .waiting) (he : b.ctl.entered = true) :
    b.slowTick = b.quiet.waitingBody := by
  rw [Block.slowTick_waiting hs, Block.enter_of_entered (b := b.quiet) he]

theorem Block.slowTick_timeEntry_entered {b : Block p} (hs : b.ctl.state = .timeEntry) (he : b.ctl.entered = true) :
    b.slowTick = b.quiet.timeEntryBody := by
  rw [Block.slowTick_timeEntry hs, Block.enter_of_entered (b := b.quiet) he]

theorem Block.slowTick_countdown_entered {b : Block p} (hs : b.ctl.state = .countdown) (he : b.ctl.entered = true) :
    b.slowTick = b.quiet.countdownBody := by
  rw [Block.slowTick_countdown hs, Block.enter_of_entered (b := b.quiet) he]

theorem Block.slowTick_done_entered {b : Block p} (hs : b.ctl.state = .done) (he : b.ctl.entered = true) :
    b.slowTick = b.quiet.doneBody := by
  rw [Block.slowTick_done hs, Block.enter_of_entered (b := b.quiet) he]

/-! ### The tick bodies read no event output -/

theorem Out.emit_comm (o : Out) (e e' : Event) : (o.emit e).emit e' = (o.emit e').emit e := by
  cases e <;> cases e' <;> rfl

theorem Block.waitingBody_emit (b : Block p) (e : Event) : (b.emit e).waitingBody = b.waitingBody.emit e := by
  unfold Block.waitingBody
  symm
  apply apply_ite (Block.emit · e)

/-- An event beside what step (1) of `Countdown` makes of the block. -/
def Served.emit (e : Event) : Served p → Served p
  | .aborted b => .aborted (b.emit e)
  | .goesOn b => .goesOn (b.emit e)

theorem Block.countdownButton_emit (b : Block p) (e : Event) :
    (b.emit e).countdownButton = b.countdownButton.emit e := by
  unfold Block.countdownButton
  rw [apply_ite (Served.emit e), apply_ite (Served.emit e)]
  rfl

theorem Block.countdownCommand_emit (b : Block p) (e : Event) :
    (b.emit e).countdownCommand = b.countdownCommand.emit e := by
  rw [Block.countdownCommand_eq, Block.countdownCommand_eq]
  rfl

theorem Block.countdownSecond_emit (b : Block p) (e : Event) : (b.emit e).countdownSecond = b.countdownSecond.emit e := by
  by_cases hb : b.ctl.secondBoundary = true ∧ b.ctl.paused = false
  · obtain ⟨hsec, hrun⟩ := hb
    cases hc : b.ctl.duration.decrement.complete
    · rw [Block.countdownSecond_decrements (b := b.emit e) hsec hrun hc, Block.countdownSecond_decrements hsec hrun hc]
      simp [Block.emit, Out.emit_comm _ e]
    · rw [Block.countdownSecond_completes (b := b.emit e) hsec hrun hc, Block.countdownSecond_completes hsec hrun hc]
      simp [Block.emit, Out.emit_comm _ e]
  · rw [Block.countdownSecond_counts (b := b.emit e) hb, Block.countdownSecond_counts hb]
    rfl

theorem Block.countdownBody_emit (b : Block p) (e : Event) : (b.emit e).countdownBody = b.countdownBody.emit e := by
  have hbutton := b.countdownButton_emit e
  cases hb : b.countdownButton with
  | aborted b' =>
    rw [hb] at hbutton
    rw [Block.countdownBody_aborted hbutton, Block.countdownBody_aborted hb]
  | goesOn b' =>
    rw [hb] at hbutton
    rw [Block.countdownBody_goesOn hbutton, Block.countdownBody_goesOn hb, Block.countdownCommand_emit,
      ← Block.countdownSecond_emit]
    rfl

theorem Block.doneBody_emit (b : Block p) (e : Event) : (b.emit e).doneBody = b.doneBody.emit e := by
  by_cases hl : b.ctl.doneCount.val + 1 = p.doneTicks
  · rw [Block.doneBody_last (b := b.emit e) hl, Block.doneBody_last hl]
    rfl
  · rw [Block.doneBody_counts (b := b.emit e) hl, Block.doneBody_counts hl]
    rfl

/-! ### First slow ticks -/

/-- What the first-entry action of `Waiting` writes (R116). -/
def Block.waitingEntered (b : Block p) : Block p := { b with ctl.entered := true }

/-- What the first-entry action of `Countdown` writes (R120). -/
def Block.countdownEntered (b : Block p) : Block p :=
  { b with
    ctl.paused := false, ctl.blinkPhase := false, ctl.tickAcc := ⟨0, p.ticksPerSec_pos⟩, ctl.statA := false,
    ctl.statB := false, ctl.cmdAvail := false, ctl.entered := true }

/-- What the first-entry action of `Done` writes (R124). -/
def Block.doneEntered (b : Block p) : Block p :=
  { b with
    ctl.blinkIndicator := false, ctl.doneCount := ⟨0, p.doneTicks_pos⟩, ctl.statA := true, ctl.statB := false,
    ctl.entered := true }

theorem Block.slowTick_waiting_first {b : Block p} (hs : b.ctl.state = .waiting) (he : b.ctl.entered = false) :
    b.slowTick = b.waitingEntered.slowTick.emit .waiting := by
  rw [Block.slowTick_waiting hs, Block.enter_of_not_entered (b := b.quiet) he,
    Block.slowTick_waiting_entered (b := b.waitingEntered) hs rfl, ← Block.waitingBody_emit]
  rfl

theorem Block.slowTick_countdown_first {b : Block p} (hs : b.ctl.state = .countdown) (he : b.ctl.entered = false) :
    b.slowTick = b.countdownEntered.slowTick.emit .banner := by
  rw [Block.slowTick_countdown hs, Block.enter_of_not_entered (b := b.quiet) he,
    Block.slowTick_countdown_entered (b := b.countdownEntered) hs rfl, ← Block.countdownBody_emit]
  rfl

theorem Block.slowTick_done_first {b : Block p} (hs : b.ctl.state = .done) (he : b.ctl.entered = false) :
    b.slowTick = b.doneEntered.slowTick.emit .done := by
  rw [Block.slowTick_done hs, Block.enter_of_not_entered (b := b.quiet) he,
    Block.slowTick_done_entered (b := b.doneEntered) hs rfl, ← Block.doneBody_emit]
  rfl

/-- Ticks in a row after a first one: the event is in the record of the first tick alone. -/
theorem stick_iterate_of_first {s s' : State} {e : Event} (h : s.stick = s'.stick.withBlock (s'.stick.blk.emit e)) (k : Nat) :
    (State.stick^[k + 1] s).blk.ctl = (State.stick^[k + 1] s').blk.ctl ∧
      (State.stick^[k + 1] s).blk.gen = (State.stick^[k + 1] s').blk.gen := by
  cases k with
  | zero => simp [h]
  | succ k =>
    have hnext : s.stick.stick = s'.stick.stick := by
      rw [h]
      exact stick_eq_of_exec (exec_ignores_out .stick s'.stick _)
    simp only [Function.iterate_succ_apply, hnext, and_self]

end Sys2Proof.Machine
end

section
/-! `Waiting` and `TimeEntry` (43_fsm_controller.md R116 to R119): the entry actions, the tick bodies, and clicks of every
length. -/

namespace Sys2Proof.Machine

open Sys2Proof.Safety

variable {p : Params}

/-! ### `Waiting` (R116, R117) -/

/-- Settles O33: the first tick is the tick of the entered block, whose body emits nothing, with the banner. -/
theorem waitingEntryAsksForTheBanner : Obligations.WaitingEntryAsksForTheBanner := by
  intro s hstate hentered
  have hentry := Block.slowTick_waiting_entered (b := s.blk.waitingEntered) hstate rfl
  refine ⟨_, exec_stick _, (congrArg Block.out hentry).trans (Block.waitingBody_out _), ?_⟩
  rw [exec_stick, State.stick, Block.slowTick_waiting_first hstate hentered]
  rfl

/-- Settles O34: one clause for each case of the tick body. -/
theorem waitingWatchesThePrimaryButton : Obligations.WaitingWatchesThePrimaryButton := by
  intro s hstate hentered
  have htick : s.stick = s.withBlock s.blk.quiet.waitingBody :=
    congrArg s.withBlock (Block.slowTick_waiting_entered hstate hentered)
  refine ⟨s.stick, exec_stick s, ?_, fun hpin => ?_, fun hpin hsettled hshort => ?_, fun hpin hother => ?_⟩
  · rw [htick, Block.waitingBody_writes_ctl]
    rfl
  · have hpressed : pressed s.blk.quiet.pinBtn Config.params.primaryBtn = true := (pressed_iff _ _).2 hpin
    rw [htick, Block.waitingBody_pressed hpressed]
    exact ⟨rfl, rfl, rfl⟩
  · have hreleased : pressed s.blk.quiet.pinBtn Config.params.primaryBtn = false := (pressed_eq_false_iff _ _).2 hpin
    rw [htick, Block.waitingBody_click hreleased hsettled hshort]
    rfl
  · have hreleased : pressed s.blk.quiet.pinBtn Config.params.primaryBtn = false := (pressed_eq_false_iff _ _).2 hpin
    have hclick : ¬(3 ≤ s.blk.ctl.hold.pri.ticks.val ∧ s.blk.ctl.hold.pri.ticks.val < 50) := by omega
    rw [htick, Block.waitingBody_other hreleased hclick]
    rfl

/-- Entered or not, a tick of `Waiting` performs the tick body on an entered block. -/
theorem Block.slowTick_waiting_body {b : Block p} (hs : b.ctl.state = .waiting) :
    ∃ o, b.slowTick = { b with ctl.entered := true, out := o }.waitingBody := by
  rw [Block.slowTick_waiting hs]
  refine Block.enter_induction
    (P := fun x => ∃ o, x.waitingBody = { b with ctl.entered := true, out := o }.waitingBody) (fun he => ?_) (fun _ => ?_)
  · exact ⟨Out.none, by rw [← show b.ctl.entered = true from he]; rfl⟩
  · exact ⟨Out.none.emit .waiting, rfl⟩

/-- A press of the primary button adds one to its count at each slow tick, up to `HOLD_MAX`, and `Waiting` is not left. -/
theorem Block.slowTick_iterate_waiting_pressed {b : Block p} (hs : b.ctl.state = .waiting)
    (hp : pressed b.pinBtn p.primaryBtn = true) (n : Nat) :
    (Block.slowTick^[n] b).ctl.state = .waiting ∧ (Block.slowTick^[n] b).pinBtn = b.pinBtn ∧
      (Block.slowTick^[n] b).ctl.hold.pri.ticks.val = min (b.ctl.hold.pri.ticks.val + n) p.holdMax := by
  induction n with
  | zero => exact ⟨hs, rfl, (Nat.min_eq_left (Nat.le_of_lt_succ b.ctl.hold.pri.ticks.isLt)).symm⟩
  | succ n ih =>
    obtain ⟨hstate, hpin, hticks⟩ := ih
    obtain ⟨o, htick⟩ := Block.slowTick_waiting_body hstate
    rw [Function.iterate_succ_apply', htick, Block.waitingBody_pressed (by rwa [hpin])]
    refine ⟨hstate, hpin, ?_⟩
    simp only [satTick_val, hticks]
    omega

/-- The release of the primary button leaves `Waiting` exactly for a count between the settle delay and the long press. -/
theorem Block.slowTick_waiting_released {b : Block p} (hs : b.ctl.state = .waiting)
    (hp : pressed b.pinBtn p.primaryBtn = false) :
    b.slowTick.ctl.hold.pri = HoldCounter.zero p ∧
      if p.settleTicks ≤ b.ctl.hold.pri.ticks.val ∧ b.ctl.hold.pri.ticks.val < p.longPressTicks then
        b.slowTick.ctl.state = .timeEntry ∧ b.slowTick.ctl.entered = false
      else b.slowTick.ctl.state = .waiting ∧ b.slowTick.ctl.entered = true := by
  obtain ⟨o, htick⟩ := Block.slowTick_waiting_body hs
  rw [htick]
  split
  next hclick =>
    obtain ⟨hsettled, hshort⟩ := hclick
    rw [Block.waitingBody_click (b := { b with ctl.entered := true, out := o }) hp hsettled hshort]
    exact ⟨rfl, rfl, rfl⟩
  next hclick =>
    rw [Block.waitingBody_other (b := { b with ctl.entered := true, out := o }) hp hclick]
    exact ⟨rfl, hs, rfl⟩

/-- The block after `BTN lv` (R143). -/
def Block.btn (b : Block p) (lv : BitVec 3) : Block p := { b.quiet with pinBtn := lv }

/-- A hold is a press, its ticks, and a release that one more tick samples (R64). -/
theorem perform_hold_primary (s : State) (c : Nat) :
    perform (AsmLine.operations (.hold 0b001 c)) s
      = .next (s.withBlock ((Block.slowTick^[c] (s.blk.btn 0b110)).btn 0b111).slowTick) :=
  perform_append [.btn 0b111, .stick] (perform_replicate_stick c (s.withBlock (s.blk.btn 0b110)))

/-- Settles O35: the count at the release is the number of ticks pressed (`slowTick_iterate_waiting_pressed`), and a count that
saturates is no click. -/
theorem clickOfEveryLength : Obligations.ClickOfEveryLength := by
  intro s c hstate hidle
  obtain ⟨hwaiting, -, hticks⟩ := Block.slowTick_iterate_waiting_pressed (b := s.blk.btn 0b110) hstate
    (show pressed 0b110 0 = true by decide) c
  have hcount : ((Block.slowTick^[c] (s.blk.btn 0b110)).btn 0b111).ctl.hold.pri.ticks.val = min c 65535 := by
    refine hticks.trans ?_
    simp [Block.btn, hidle]
  obtain ⟨hpri, hrelease⟩ := Block.slowTick_waiting_released
    (b := (Block.slowTick^[c] (s.blk.btn 0b110)).btn 0b111) hwaiting (show pressed 0b111 0 = false by decide)
  have hclick : 3 ≤ min c 65535 ∧ min c 65535 < 50 ↔ 3 ≤ c ∧ c < 50 := by omega
  simp only [hcount, params_settleTicks, params_longPressTicks, hclick] at hrelease
  refine ⟨_, perform_hold_primary s c, ?_⟩
  by_cases hc : 3 ≤ c ∧ c < 50
  · rw [if_pos hc] at hrelease ⊢
    exact ⟨hrelease.1, by simpa [hc] using hrelease.2, hpri⟩
  · rw [if_neg hc] at hrelease ⊢
    exact ⟨hrelease.1, by simpa [hc] using hrelease.2, hpri⟩

/-! ### `TimeEntry` (R118, R119) -/

/-- Settles O36: the entry action puts the block into phase `Prompt`, where the tick body does nothing. -/
theorem timeEntryEntryPrompts : Obligations.TimeEntryEntryPrompts := by
  intro s hstate hentered
  rw [exec_stick, State.stick, Block.slowTick_timeEntry hstate, Block.enter_of_not_entered (b := s.blk.quiet) hentered,
    Block.timeEntryBody_prompt rfl]
  rfl

/-- Settles O37: one clause for each case of the tick body. -/
theorem timeEntryWatchesTheCombo : Obligations.TimeEntryWatchesTheCombo := by
  intro s hstate hentered
  have htick : s.stick = s.withBlock s.blk.quiet.timeEntryBody :=
    congrArg s.withBlock (Block.slowTick_timeEntry_entered hstate hentered)
  have hcombo : comboAsserted Config.params s.blk.quiet.pinBtn = true ↔ ComboPressed s := comboAsserted_iff _
  have hnocombo : ¬ComboPressed s → comboAsserted Config.params s.blk.quiet.pinBtn = false := fun h =>
    Bool.eq_false_iff.2 fun h' => h (hcombo.1 h')
  rw [exec_stick, htick]
  refine ⟨fun hprompt => ?_, fun harmed hpressed => ?_, fun harmed hreleased hidle => ?_,
    fun harmed hreleased hheld hshort => ?_, fun harmed hreleased hlong => ?_⟩
  · rw [Block.timeEntryBody_prompt (b := s.blk.quiet) hprompt]
    rfl
  · rw [Block.timeEntryBody_pressed (b := s.blk.quiet) harmed (hcombo.2 hpressed)]
    exact ⟨_, rfl, rfl, rfl, rfl⟩
  · rw [Block.timeEntryBody_idle (b := s.blk.quiet) harmed (hnocombo hreleased) hidle]
    rfl
  · rw [Block.timeEntryBody_short (b := s.blk.quiet) harmed (hnocombo hreleased) hheld.ne' hshort]
    rfl
  · rw [Block.timeEntryBody_long (b := s.blk.quiet) harmed (hnocombo hreleased) hlong]
    rfl

end Sys2Proof.Machine
end

section
/-! `Countdown` (43_fsm_controller.md R120 to R123). A tick that does not abort performs steps (1) to (3), which have one outcome,
and then step (4), which counts, decrements or completes. -/

namespace Sys2Proof.Machine

open Sys2Proof.Safety

variable {p : Params}

/-! ### The first tick and the abort (R120, R121) -/

/-- With the accumulator clear no second ends, so that the tick body emits nothing. -/
theorem countdownBody_out_of_cleared {b : Block Config.params} (hacc : b.ctl.tickAcc.val = 0) :
    b.countdownBody.out = b.out := by
  refine b.countdownBody_out.resolve_right fun h => ?_
  have htop : b.ctl.tickAcc.val + 1 = 50 := (atTop_iff _).1 h.1
  omega

/-- Settles O39: the first tick is the tick of the entered block, whose body emits nothing, with the help banner. -/
theorem countdownEntryClearsTheSession : Obligations.CountdownEntryClearsTheSession := by
  intro s hstate hentered
  have hentry := Block.slowTick_countdown_entered (b := s.blk.countdownEntered) hstate rfl
  refine ⟨_, exec_stick _, (congrArg Block.out hentry).trans (countdownBody_out_of_cleared rfl), ?_⟩
  rw [exec_stick, State.stick, Block.slowTick_countdown_first hstate hentered]
  rfl

/-- Settles O40. -/
theorem longPressAborts : Obligations.LongPressAborts := by
  intro s hstate hentered habort
  obtain ⟨hpin, hlong⟩ := habort
  have hreleased : pressed s.blk.quiet.pinBtn Config.params.pauseBtn = false := (pressed_eq_false_iff _ _).2 hpin
  rw [exec_stick, State.stick, Block.slowTick_countdown_entered hstate hentered,
    Block.countdownBody_aborted (Block.countdownButton_abort (b := s.blk.quiet) hreleased hlong)]
  rfl

/-! ### Steps (1) to (3) of a tick that does not abort -/

/-- A slow tick of an entered `Countdown` that does not abort. -/
structure State.GoesOn (s : State) : Prop where
  state : s.blk.ctl.state = .countdown
  entered : s.blk.ctl.entered = true
  not_aborts : ¬Aborts s

/-- The block after step (1) of such a tick (R121). -/
def State.served (s : State) : Block Config.params :=
  { s.blk.quiet with
    ctl.hold.pau :=
      (holdStep s.blk.ctl.hold.pau (pressed s.blk.pinBtn Config.params.pauseBtn) Config.params.longPressTicks).hc
    ctl.paused := pausedAfter s }

/-- The block after step (3) of such a tick (R122). -/
def State.programmed (s : State) : Block Config.params := s.served.countdownCommand.programTarget

theorem State.served_of_pressed {s : State} (h : pressed s.blk.pinBtn Config.params.pauseBtn = true) :
    s.served = { s.blk.quiet with ctl.hold.pau := ⟨true, satTick s.blk.ctl.hold.pau.ticks⟩ } := by
  have hpin : s.blk.pinBtn.getLsbD 2 = false := (pressed_iff _ _).1 h
  have hclick : ¬ClicksPause s := fun hc => Bool.false_ne_true (hpin.symm.trans hc.1)
  simp only [State.served, h, holdStep_asserted, pausedAfter, if_neg hclick]
  rfl

theorem State.served_of_released {s : State} (h : pressed s.blk.pinBtn Config.params.pauseBtn = false) :
    s.served = { s.blk.quiet with ctl.hold.pau := HoldCounter.zero _, ctl.paused := pausedAfter s } := by
  simp only [State.served, h, holdStep_released]

/-- Step (1): the three cases of the button in which the tick goes on. -/
theorem State.GoesOn.countdownButton_eq {s : State} (h : s.GoesOn) : s.blk.quiet.countdownButton = .goesOn s.served := by
  cases hp : pressed s.blk.pinBtn Config.params.pauseBtn
  case true => rw [State.served_of_pressed hp, Block.countdownButton_pressed (b := s.blk.quiet) hp]; rfl
  case false =>
    have hpin : PauseReleased s := (pressed_eq_false_iff _ _).1 hp
    have hshort : s.blk.ctl.hold.pau.ticks.val < 50 := Nat.lt_of_not_le fun hl => h.not_aborts ⟨hpin, hl⟩
    rw [State.served_of_released hp]
    by_cases hs : 3 ≤ s.blk.ctl.hold.pau.ticks.val
    · have hclick : ClicksPause s := ⟨hpin, hs, hshort⟩
      rw [Block.countdownButton_click (b := s.blk.quiet) hp hs hshort, pausedAfter, if_pos hclick]
      rfl
    · have hclick : ¬ClicksPause s := fun hc => hs hc.2.1
      rw [Block.countdownButton_other (b := s.blk.quiet) hp (Nat.lt_of_not_le hs), pausedAfter, if_neg hclick]
      rfl

theorem State.GoesOn.stick_eq {s : State} (h : s.GoesOn) : s.stick = s.withBlock s.programmed.countdownSecond := by
  rw [State.stick, Block.slowTick_countdown_entered h.state h.entered, Block.countdownBody_goesOn h.countdownButton_eq]
  rfl

/-- What steps (2) and (3) write (R121, R122). -/
theorem State.programmed_eq (s : State) :
    s.programmed = { s.served with
      ctl.extendedInfo :=
        if s.blk.ctl.cmdAvail = true ∧ s.blk.ctl.cmdChar = 0x69 then !s.blk.ctl.extendedInfo
        else s.blk.ctl.extendedInfo
      ctl.blinkIndicator :=
        if s.blk.ctl.cmdAvail = true ∧ s.blk.ctl.cmdChar = 0x62 then !s.blk.ctl.blinkIndicator
        else s.blk.ctl.blinkIndicator
      ctl.cmdAvail := false
      ctl.adcSample := s.blk.pinAdc
      ctl.dutyTicks := dutyOf _ s.blk.pinAdc
      gen.target := s.programmed.gen.target } := by
  simp only [State.programmed, Block.countdownCommand_eq]
  rfl

theorem State.programmed_target (s : State) :
    s.programmed.gen.target.val
      = if s.programmed.ctl.blinkIndicator = true ∧ s.blk.ctl.blinkPhase = false then 0
        else s.blk.pinAdc.val * 5 / 1023 := by
  refine (Block.programTarget_target _).trans ?_
  simp only [State.programmed, Block.countdownCommand_eq, Control.darkPhase, Bool.and_eq_true, Bool.not_eq_true']
  rfl

/-! ### Step (4) (R123) -/

/-- Step (4) writes the accumulator, and at most the duration, the state with its first-entry flag and hold counters, the first
status output, the blink phase and the event. -/
theorem Block.countdownSecond_writes (b : Block p) :
    ∃ (d : Duration p) (st : TimerState) (entered : Bool) (hold : HoldFile p) (statA phase : Bool) (o : Out),
      b.countdownSecond = { b with
        ctl.tickAcc := wrapNext b.ctl.tickAcc, ctl.minutes := d.minutes, ctl.seconds := d.seconds, ctl.state := st,
        ctl.entered := entered, ctl.hold := hold, ctl.statA := statA, ctl.blinkPhase := phase, out := o } := by
  by_cases hb : b.ctl.secondBoundary = true ∧ b.ctl.paused = false
  · obtain ⟨hsec, hrun⟩ := hb
    cases hc : b.ctl.duration.decrement.complete
    · exact ⟨_, _, _, _, _, _, _, Block.countdownSecond_decrements hsec hrun hc⟩
    · exact ⟨_, _, _, _, _, _, _, Block.countdownSecond_completes hsec hrun hc⟩
  · exact ⟨b.ctl.duration, _, _, _, _, _, _, Block.countdownSecond_counts hb⟩

theorem State.programmed_countsSecond (s : State) :
    (s.programmed.ctl.secondBoundary = true ∧ s.programmed.ctl.paused = false) ↔ CountsSecond s := by
  rw [State.programmed_eq]
  exact and_congr_left fun _ => (atTop_iff _).trans (Nat.succ_inj (b := 49))

theorem State.programmed_duration (s : State) : s.programmed.ctl.duration = s.blk.ctl.duration := by
  rw [State.programmed_eq]
  rfl

theorem State.decrement_complete_iff {s : State} (h : CountsSecond s) :
    s.blk.ctl.duration.decrement.complete = true ↔ Completes s :=
  (Duration.decrement_complete_iff _).trans (and_iff_right h).symm

/-- Everything that step (4) can do to the tick: count, count a second, or complete the countdown. -/
theorem State.GoesOn.stick_cases {s : State} (h : s.GoesOn) :
    (¬CountsSecond s ∧ s.stick = s.withBlock { s.programmed with ctl.tickAcc := wrapNext s.blk.ctl.tickAcc }) ∨
    (CountsSecond s ∧ ¬Completes s ∧ s.stick = s.withBlock { s.programmed with
      ctl.tickAcc := wrapNext s.blk.ctl.tickAcc, ctl.minutes := s.blk.ctl.duration.decrement.minutes,
      ctl.seconds := s.blk.ctl.duration.decrement.seconds, ctl.statA := !s.blk.ctl.statA,
      ctl.blinkPhase := !s.blk.ctl.blinkPhase, out := Out.none.emit .status }) ∨
    (Completes s ∧ s.stick = s.withBlock { s.programmed with
      ctl.tickAcc := wrapNext s.blk.ctl.tickAcc, ctl.minutes := s.blk.ctl.duration.decrement.minutes,
      ctl.seconds := s.blk.ctl.duration.decrement.seconds, ctl.statA := !s.blk.ctl.statA,
      ctl.blinkPhase := !s.blk.ctl.blinkPhase, ctl.state := .done, ctl.entered := false,
      ctl.hold := HoldFile.zero _, out := Out.none.emit .status }) := by
  rw [h.stick_eq]
  by_cases hsec : CountsSecond s
  · obtain ⟨hb, hrun⟩ := s.programmed_countsSecond.2 hsec
    by_cases hc : Completes s
    · have hcomplete : s.programmed.ctl.duration.decrement.complete = true := by
        rw [s.programmed_duration, State.decrement_complete_iff hsec]; exact hc
      refine .inr (.inr ⟨hc, ?_⟩)
      rw [Block.countdownSecond_completes hb hrun hcomplete, s.programmed_duration, State.programmed_eq]
      rfl
    · have hcomplete : s.programmed.ctl.duration.decrement.complete = false := by
        rw [Bool.eq_false_iff, ne_eq, s.programmed_duration, State.decrement_complete_iff hsec]; exact hc
      refine .inr (.inl ⟨hsec, hc, ?_⟩)
      rw [Block.countdownSecond_decrements hb hrun hcomplete, s.programmed_duration, State.programmed_eq]
      rfl
  · refine .inl ⟨hsec, ?_⟩
    rw [Block.countdownSecond_counts (mt s.programmed_countsSecond.1 hsec), State.programmed_eq]
    rfl

theorem State.GoesOn.stick_stays {s : State} (h : s.GoesOn) (hn : ¬Completes s) :
    s.stick.blk.ctl.state = .countdown ∧ s.stick.blk.ctl.entered = true ∧ s.stick.blk.ctl.hold = s.served.ctl.hold := by
  obtain ⟨-, htick⟩ | ⟨-, -, htick⟩ | ⟨hc, -⟩ := h.stick_cases
  · rw [htick, State.programmed_eq]; exact ⟨h.state, h.entered, rfl⟩
  · rw [htick, State.programmed_eq]; exact ⟨h.state, h.entered, rfl⟩
  · exact absurd hc hn

theorem State.GoesOn.stick_completes {s : State} (h : s.GoesOn) (hc : Completes s) :
    s.stick.blk.ctl.state = .done ∧ s.stick.blk.ctl.hold = HoldFile.zero _ := by
  obtain ⟨hn, -⟩ | ⟨-, hn, -⟩ | ⟨-, htick⟩ := h.stick_cases
  · exact absurd hc.1 hn
  · exact absurd hc hn
  · rw [htick]; exact ⟨rfl, rfl⟩

/-! ### The statements about one tick -/

/-- Settles O41: the flag and the counter are those of step (1), and only a completion clears the counters after it. -/
theorem countdownServesThePauseButton : Obligations.CountdownServesThePauseButton := by
  intro s hstate hentered hgoes
  have h : s.GoesOn := ⟨hstate, hentered, hgoes⟩
  have hpaused : s.stick.blk.ctl.paused = pausedAfter s := by
    obtain ⟨_, _, _, _, _, _, _, hwrites⟩ := s.programmed.countdownSecond_writes
    rw [h.stick_eq, hwrites, State.programmed_eq]
    rfl
  have hhold : ¬Completes s → s.stick.blk.ctl.hold = s.served.ctl.hold := fun hn => (h.stick_stays hn).2.2
  refine ⟨s.stick, exec_stick s, hpaused, fun hc => (h.stick_completes hc).2, fun hc => ?_, fun hc hpin => ?_,
    fun hc hpin => ?_⟩
  · rw [hhold hc]; rfl
  · rw [hhold hc, State.served_of_released ((pressed_eq_false_iff _ _).2 hpin)]; rfl
  · rw [hhold hc, State.served_of_pressed ((pressed_iff _ _).2 (Bool.not_eq_true _ ▸ hpin))]
    exact ⟨rfl, rfl⟩

/-- Settles O42: step (2) is the only one that touches the character and the modes. -/
theorem countdownDrainsOneCharacter : Obligations.CountdownDrainsOneCharacter := by
  intro s hstate hentered hgoes
  have h : s.GoesOn := ⟨hstate, hentered, hgoes⟩
  obtain ⟨_, _, _, _, _, _, _, hwrites⟩ := s.programmed.countdownSecond_writes
  refine ⟨s.stick, exec_stick s, ?_⟩
  rw [h.stick_eq, hwrites, State.programmed_eq]
  exact ⟨rfl, rfl, rfl, rfl⟩

/-- Settles O43: step (3) is the only one that touches the analog fields and the target. -/
theorem countdownProgramsTheTarget : Obligations.CountdownProgramsTheTarget := by
  intro s hstate hentered hgoes
  have h : s.GoesOn := ⟨hstate, hentered, hgoes⟩
  obtain ⟨_, _, _, _, _, _, _, hwrites⟩ := s.programmed.countdownSecond_writes
  refine ⟨s.stick, exec_stick s, ?_⟩
  rw [h.stick_eq, hwrites]
  refine ⟨?_, ?_, s.programmed_target⟩
  · rw [State.programmed_eq]; rfl
  · rw [State.programmed_eq]; rfl

/-- Settles O44, by the three cases of step (4). -/
theorem countdownCountsTheSecond : Obligations.CountdownCountsTheSecond := by
  intro s hstate hentered hgoes
  have h : s.GoesOn := ⟨hstate, hentered, hgoes⟩
  refine ⟨s.stick, exec_stick s, ?_⟩
  obtain ⟨hn, htick⟩ | ⟨hsec, hn, htick⟩ | ⟨hc, htick⟩ := h.stick_cases
  · rw [htick, State.programmed_eq]
    exact ⟨wrapNext_val _, fun _ => ⟨rfl, rfl, rfl, rfl, h.state, h.entered, rfl⟩, fun hsec => absurd hsec hn⟩
  · rw [htick, State.programmed_eq, if_neg hn, decide_eq_true hn]
    exact ⟨wrapNext_val _, fun hno => absurd hsec hno, fun _ =>
      ⟨Duration.decrement_total _, Duration.decrement_minutes _, rfl, rfl, rfl, h.state, h.entered,
        fun hc => absurd hc hn⟩⟩
  · rw [htick, State.programmed_eq, if_pos hc, decide_eq_false (not_not_intro hc)]
    exact ⟨wrapNext_val _, fun hno => absurd hc.1 hno, fun _ =>
      ⟨Duration.decrement_total _, Duration.decrement_minutes _, rfl, rfl, rfl, rfl, rfl, fun _ => rfl⟩⟩

/-- Settles O45. -/
theorem countdownTickFrame : Obligations.CountdownTickFrame := by
  intro s hstate hentered hgoes
  have h : s.GoesOn := ⟨hstate, hentered, hgoes⟩
  obtain ⟨_, _, _, _, _, _, _, hwrites⟩ := s.programmed.countdownSecond_writes
  refine ⟨s.stick, exec_stick s, ?_⟩
  rw [h.stick_eq, hwrites, State.programmed_eq]
  exact ⟨rfl, rfl⟩

/-! ### An undisturbed countdown (R102) -/

/-- The seconds that a countdown has left. -/
def Control.total (c : Control Config.params) : Nat := 60 * c.minutes.val + c.seconds.val

/-- A countdown of `total` seconds under way, unpaused and with the pause button idle, after `k` of its slow ticks. -/
structure State.Runs (s : State) (total k : Nat) : Prop where
  state : s.blk.ctl.state = .countdown
  entered : s.blk.ctl.entered = true
  released : PauseReleased s
  idle : s.blk.ctl.hold.pau = ⟨false, 0⟩
  unpaused : s.blk.ctl.paused = false
  tickAcc : s.blk.ctl.tickAcc.val = k % 50
  left : s.blk.ctl.total = total - k / 50

theorem State.Runs.ticks {s : State} {total k : Nat} (h : s.Runs total k) : s.blk.ctl.hold.pau.ticks.val = 0 := by
  rw [h.idle]
  rfl

theorem State.Runs.goesOn {s : State} {total k : Nat} (h : s.Runs total k) : s.GoesOn :=
  ⟨h.state, h.entered, fun ha => absurd ha.2 (by rw [h.ticks]; decide)⟩

theorem State.Runs.pausedAfter_eq {s : State} {total k : Nat} (h : s.Runs total k) : pausedAfter s = false := by
  have hclick : ¬ClicksPause s := fun hc => absurd hc.2.1 (by rw [h.ticks]; decide)
  rw [pausedAfter, if_neg hclick, h.unpaused]

theorem State.Runs.countsSecond_iff {s : State} {total k : Nat} (h : s.Runs total k) : CountsSecond s ↔ k % 50 = 49 := by
  simp only [CountsSecond, h.pausedAfter_eq, h.tickAcc, and_true]

/-- An undisturbed countdown completes at the last tick of its last second, which is also that of `(0, 0)`. -/
theorem State.Runs.completes_iff {s : State} {total k : Nat} (h : s.Runs total k) (hk : k + 1 ≤ 50 * max 1 total) :
    Completes s ↔ k + 1 = 50 * max 1 total := by
  have hleft : 60 * s.blk.ctl.minutes.val + s.blk.ctl.seconds.val = total - k / 50 := h.left
  rw [Completes, h.countsSecond_iff]
  omega

theorem State.Runs.stick_total {s : State} {total k : Nat} (h : s.Runs total k) :
    s.stick.blk.ctl.total = total - (k + 1) / 50 := by
  obtain ⟨t, ht, -, hcounts, hdecrements⟩ := countdownCountsTheSecond s h.state h.entered h.goesOn.not_aborts
  obtain rfl := stick_eq_of_exec ht
  have hleft : 60 * s.blk.ctl.minutes.val + s.blk.ctl.seconds.val = total - k / 50 := h.left
  unfold Control.total
  by_cases hc : CountsSecond s
  · obtain ⟨htotal, -⟩ := hdecrements hc
    have hlast : k % 50 = 49 := h.countsSecond_iff.1 hc
    omega
  · obtain ⟨hminutes, hseconds, -⟩ := hcounts hc
    have hmore : k % 50 ≠ 49 := mt h.countsSecond_iff.2 hc
    rw [hminutes, hseconds]
    omega

theorem State.Runs.stick_of_not_completes {s : State} {total k : Nat} (h : s.Runs total k) (hn : ¬Completes s) :
    s.stick.Runs total (k + 1) := by
  obtain ⟨t, ht, hpaused, -, -, hidle, -⟩ := countdownServesThePauseButton s h.state h.entered h.goesOn.not_aborts
  obtain ⟨t', ht', hacc, -⟩ := countdownCountsTheSecond s h.state h.entered h.goesOn.not_aborts
  obtain rfl := stick_eq_of_exec ht
  obtain rfl := stick_eq_of_exec ht'
  obtain ⟨hstate, hentered, -⟩ := h.goesOn.stick_stays hn
  exact
    { state := hstate
      entered := hentered
      released := (congrArg (BitVec.getLsbD · 2) (Block.slowTick_pinBtn s.blk)).trans h.released
      idle := hidle hn h.released
      unpaused := hpaused.trans h.pausedAfter_eq
      tickAcc := by rw [hacc, h.tickAcc, Nat.mod_add_mod]
      left := h.stick_total }

/-- An undisturbed countdown runs until the last slow tick of its last second. -/
theorem State.Runs.stick_iterate {s : State} {total : Nat} (h : s.Runs total 0) {k : Nat} (hk : k ≤ 50 * max 1 total) :
    (State.stick^[k] s).blk.ctl.total = total - k / 50 ∧
      if k = 50 * max 1 total then (State.stick^[k] s).blk.ctl.state = .done else (State.stick^[k] s).Runs total k := by
  induction k with
  | zero => exact ⟨h.left, by rwa [if_neg (by omega)]⟩
  | succ k ih =>
    obtain ⟨-, hruns⟩ := ih (Nat.le_of_succ_le hk)
    rw [if_neg (by omega)] at hruns
    rw [Function.iterate_succ_apply']
    refine ⟨hruns.stick_total, ?_⟩
    split
    next hlast => exact (hruns.goesOn.stick_completes ((hruns.completes_iff hk).2 hlast)).1
    next hmore => exact hruns.stick_of_not_completes (mt (hruns.completes_iff hk).1 hmore)

/-- The entry action of `Countdown` starts an undisturbed countdown (R120). -/
theorem runs_of_entry {s : State} (hstate : s.blk.ctl.state = .countdown) (hreleased : PauseReleased s)
    (hidle : s.blk.ctl.hold.pau = ⟨false, 0⟩) :
    (s.withBlock s.blk.countdownEntered).Runs s.blk.ctl.total 0 :=
  ⟨hstate, rfl, hreleased, hidle, rfl, rfl, rfl⟩

/-- Settles O47: but for the help banner the first tick is that of a countdown under way, which then runs undisturbed. -/
theorem countdownReachesDoneOnTime : Obligations.CountdownReachesDoneOnTime := by
  intro s k hstate hentered hreleased hidle hk
  have hfirst := congrArg s.withBlock (Block.slowTick_countdown_first hstate hentered)
  refine ⟨State.stick^[k] s, perform_stick k s, ?_⟩
  cases k with
  | zero => exact ⟨rfl, by rw [if_neg (by omega)]; exact hstate⟩
  | succ k =>
    obtain ⟨hctl, -⟩ := stick_iterate_of_first
      (s' := s.withBlock s.blk.countdownEntered) hfirst k
    obtain ⟨htotal, hends⟩ := (runs_of_entry hstate hreleased hidle).stick_iterate hk
    rw [hctl]
    refine ⟨htotal, ?_⟩
    split
    next hlast => rwa [Control.total, if_pos hlast] at hends
    next hmore =>
      rw [Control.total, if_neg hmore] at hends
      exact hends.state

end Sys2Proof.Machine
end

section
/-! `Done` (43_fsm_controller.md R124, R125): its first tick, its tick body, and its 250 ticks. -/

namespace Sys2Proof.Machine

open Sys2Proof.Safety

/-- Settles O48: the first tick is the tick of the entered block, whose body emits nothing, with the completion message. -/
theorem doneEntryForcesSolid : Obligations.DoneEntryForcesSolid := by
  intro s hstate hentered
  have hentry := Block.slowTick_done_entered (b := s.blk.doneEntered) hstate rfl
  refine ⟨_, exec_stick _, (congrArg Block.out hentry).trans (Block.doneBody_out _), ?_⟩
  rw [exec_stick, State.stick, Block.slowTick_done_first hstate hentered]
  rfl

/-- The target that a tick of `Done` programs, last or not (R122, R125). -/
theorem doneBody_target (b : Block Config.params) :
    b.doneBody.gen.target.val
      = if b.ctl.blinkIndicator = true ∧ b.ctl.blinkPhase = false then 0 else b.pinAdc.val * 5 / 1023 := by
  have htarget : b.doneBody.gen.target = b.programTarget.gen.target := by
    by_cases hl : b.ctl.doneCount.val + 1 = Config.params.doneTicks
    · rw [Block.doneBody_last hl]; rfl
    · rw [Block.doneBody_counts hl]; rfl
  rw [htarget, Block.programTarget_target]
  simp [Control.darkPhase]

/-- The last tick of `Done` resets the control domain (R39, R125). -/
theorem doneBody_ctl_of_last {b : Block Config.params} (h : b.ctl.doneCount.val = 249) :
    b.doneBody.ctl = Control.reset Config.params := by
  rw [Block.doneBody_last (congrArg (· + 1) h)]

/-- Settles O49: the two cases of the tick body. -/
theorem doneTickCountsAndSwaps : Obligations.DoneTickCountsAndSwaps := by
  intro s hstate hentered
  have htick : s.stick = s.withBlock s.blk.quiet.doneBody :=
    congrArg s.withBlock (Block.slowTick_done_entered hstate hentered)
  refine ⟨s.stick, exec_stick s, ?_, ?_, fun hlast => ?_, fun hmore => ?_⟩
  · rw [htick, Block.doneBody_frame, Block.doneBody_out]
    rfl
  · rw [htick]
    exact doneBody_target s.blk.quiet
  · refine atReset_of_domains rfl ?_ rfl
    rw [htick]
    exact doneBody_ctl_of_last (b := s.blk.quiet) hlast
  · have hcount : s.blk.quiet.ctl.doneCount.val + 1 ≠ Config.params.doneTicks := fun h => hmore (Nat.succ_inj.1 h)
    have hnext : (wrapNext s.blk.ctl.doneCount).val = s.blk.ctl.doneCount.val + 1 :=
      wrapNext_val_of_not_atTop (Bool.eq_false_iff.2 fun h => hcount ((atTop_iff _).1 h))
    rw [htick, Block.doneBody_counts hcount]
    exact ⟨hnext, rfl, rfl, rfl, rfl, rfl⟩

/-! ### The 250 ticks -/

/-- A `Done` under way after `k` of its ticks: the status pair has been swapped at every tenth of them, and the mode is SOLID. -/
structure State.Finishes (s : State) (k : Nat) : Prop where
  state : s.blk.ctl.state = .done
  entered : s.blk.ctl.entered = true
  doneCount : s.blk.ctl.doneCount.val = k
  statA : s.blk.ctl.statA = decide (k / 10 % 2 = 0)
  statB : s.blk.ctl.statB = !s.blk.ctl.statA
  solid : s.blk.ctl.blinkIndicator = false

/-- The entry action of `Done` starts it (R124). -/
theorem finishes_of_entry {s : State} (hstate : s.blk.ctl.state = .done) :
    (s.withBlock s.blk.doneEntered).Finishes 0 :=
  ⟨hstate, rfl, rfl, rfl, rfl, rfl⟩

/-- A tenth tick swaps the pair, and another one keeps it. -/
theorem swapped_pair (k : Nat) :
    (if (k + 1) % 10 = 0 then !decide (k / 10 % 2 = 0) else decide (k / 10 % 2 = 0)) = decide ((k + 1) / 10 % 2 = 0) := by
  split
  · rw [← decide_not, decide_eq_decide]; omega
  · rw [decide_eq_decide]; omega

theorem State.Finishes.stick {s : State} {k : Nat} (h : s.Finishes k) (hk : k < 249) : s.stick.Finishes (k + 1) := by
  obtain ⟨t, ht, -, -, -, hcounts⟩ := doneTickCountsAndSwaps s h.state h.entered
  obtain rfl := stick_eq_of_exec ht
  obtain ⟨hcount, -, -, hA, hB, hctl⟩ := hcounts (by rw [h.doneCount]; omega)
  rw [h.doneCount] at hcount hA hB
  refine ⟨?_, ?_, hcount, ?_, ?_, ?_⟩
  · rw [hctl]; exact h.state
  · rw [hctl]; exact h.entered
  · rw [hA, h.statA, swapped_pair]
  · rw [hA, hB, h.statB]; split <;> rfl
  · rw [hctl]; exact h.solid

theorem State.Finishes.stick_iterate {s : State} (h : s.Finishes 0) {k : Nat} (hk : k ≤ 249) :
    (State.stick^[k] s).Finishes k := by
  induction k with
  | zero => exact h
  | succ k ih =>
    rw [Function.iterate_succ_apply']
    exact (ih (Nat.le_of_succ_le hk)).stick hk

theorem State.stick_iterate_pinAdc (s : State) (k : Nat) : (State.stick^[k] s).blk.pinAdc = s.blk.pinAdc := by
  induction k with
  | zero => rfl
  | succ k ih => rw [Function.iterate_succ_apply', ← ih]; exact Block.slowTick_pinAdc _

/-- The last tick leaves for `Waiting`, with the target that the analog value gives in SOLID mode. -/
theorem State.Finishes.stick_last {s : State} (h : s.Finishes 249) :
    s.stick.blk.ctl = Control.reset _ ∧ s.stick.blk.gen.target.val = s.blk.pinAdc.val * 5 / 1023 := by
  have htick : s.stick = s.withBlock s.blk.quiet.doneBody :=
    congrArg s.withBlock (Block.slowTick_done_entered h.state h.entered)
  rw [htick]
  refine ⟨doneBody_ctl_of_last (b := s.blk.quiet) h.doneCount, (doneBody_target s.blk.quiet).trans (if_neg fun hdark => ?_)⟩
  exact Bool.false_ne_true (h.solid.symm.trans hdark.1)

/-- Settles O50: but for the completion message the first tick is that of a `Done` under way. -/
theorem doneLasts250SlowTicks : Obligations.DoneLasts250SlowTicks := by
  intro s k hstate hentered hpos hk
  have hfirst := congrArg s.withBlock (Block.slowTick_done_first hstate hentered)
  have hstart := finishes_of_entry hstate
  obtain ⟨k, rfl⟩ := Nat.exists_eq_add_of_le' hpos
  obtain ⟨hctl, hgen⟩ := stick_iterate_of_first
    (s' := s.withBlock s.blk.doneEntered) hfirst k
  refine ⟨State.stick^[k + 1] s, perform_stick (k + 1) s, fun hmore => ?_, fun hlast => ?_⟩
  · have h := hstart.stick_iterate (k := k + 1) (by omega)
    rw [hctl]
    exact ⟨h.state, h.entered, h.doneCount, h.statA, h.statB⟩
  · obtain rfl : k = 249 := Nat.succ_inj.1 hlast
    obtain ⟨hreset, htarget⟩ := (hstart.stick_iterate (k := 249) le_rfl).stick_last
    rw [State.stick_iterate_pinAdc] at htarget
    rw [hctl, hgen, Function.iterate_succ_apply', hreset]
    exact ⟨rfl, rfl, rfl, rfl, htarget⟩

end Sys2Proof.Machine
end

section
/-! The transitions of the controller (43_fsm_controller.md R126). -/

namespace Sys2Proof.Machine

open Sys2Proof.Safety

/-- A slow tick in `s` may change the controller's state to `st`, for one of the causes of R126. -/
def SlowTransition (s : State) (st : TimerState) : Prop :=
  (s.blk.ctl.state = .waiting ∧ st = .timeEntry ∧ s.blk.pinBtn.getLsbD 0 = true ∧
      3 ≤ s.blk.ctl.hold.pri.ticks.val ∧ s.blk.ctl.hold.pri.ticks.val < 50) ∨
    (s.blk.ctl.state = .timeEntry ∧ st = .countdown ∧ s.blk.ctl.entered = true ∧ s.blk.ctl.tePhase = .armed ∧
      ¬ComboPressed s ∧ 0 < s.blk.ctl.hold.cmb.ticks.val ∧ s.blk.ctl.hold.cmb.ticks.val < 50) ∨
    (s.blk.ctl.state = .countdown ∧ st = .done ∧ (Aborts s ∨ (s.blk.ctl.entered = true ∧ Completes s))) ∨
    (s.blk.ctl.state = .done ∧ st = .waiting ∧ s.blk.ctl.entered = true ∧ s.blk.ctl.doneCount.val = 249)

/-- Only a click of PB1 leaves `Waiting`. -/
theorem stick_state_of_waiting {s : State} (hs : s.blk.ctl.state = .waiting) :
    s.stick.blk.ctl.state = .waiting ∨ SlowTransition s s.stick.blk.ctl.state := by
  cases hp : pressed s.blk.pinBtn Config.params.primaryBtn
  case true => exact .inl (Block.slowTick_iterate_waiting_pressed hs hp 1).1
  case false =>
    obtain ⟨-, hrelease⟩ := Block.slowTick_waiting_released hs hp
    split at hrelease
    next hclick =>
      exact .inr (.inl ⟨hs, hrelease.1, (pressed_eq_false_iff _ _).1 hp, hclick⟩)
    next => exact .inl hrelease.1

/-- Only a short hold of the combo, after the prompt, leaves `TimeEntry`. -/
theorem stick_state_of_timeEntry {s : State} (hs : s.blk.ctl.state = .timeEntry) :
    s.stick.blk.ctl.state = .timeEntry ∨ SlowTransition s s.stick.blk.ctl.state := by
  cases he : s.blk.ctl.entered
  case false => exact .inl (by rw [stick_eq_of_exec (timeEntryEntryPrompts s hs he)]; exact hs)
  case true =>
    obtain ⟨hprompt, hpressed, hidle, hshort, hlong⟩ := timeEntryWatchesTheCombo s hs he
    cases hphase : s.blk.ctl.tePhase
    case prompt => exact .inl (by rw [stick_eq_of_exec (hprompt hphase)]; exact hs)
    case armed =>
      by_cases hcombo : ComboPressed s
      · obtain ⟨t, ht, -, -, hframe⟩ := hpressed hphase hcombo
        exact .inl (by rw [stick_eq_of_exec ht, hframe]; exact hs)
      · obtain hzero | hpos := Nat.eq_zero_or_pos s.blk.ctl.hold.cmb.ticks.val
        · exact .inl (by rw [stick_eq_of_exec (hidle hphase hcombo hzero)]; exact hs)
        · by_cases hlt : s.blk.ctl.hold.cmb.ticks.val < 50
          · exact .inr (.inr (.inl ⟨hs, by rw [stick_eq_of_exec (hshort hphase hcombo hpos hlt)], he, hphase, hcombo,
              hpos, hlt⟩))
          · exact .inl (by rw [stick_eq_of_exec (hlong hphase hcombo (Nat.le_of_not_lt hlt))]; exact hs)

/-- Only an abort or a completion leaves an entered `Countdown`. -/
theorem stick_state_of_countdown_entered {s : State} (hs : s.blk.ctl.state = .countdown) (he : s.blk.ctl.entered = true) :
    s.stick.blk.ctl.state = .countdown ∨ (s.stick.blk.ctl.state = .done ∧ (Aborts s ∨ Completes s)) := by
  by_cases ha : Aborts s
  · exact .inr ⟨by rw [stick_eq_of_exec (longPressAborts s hs he ha)], .inl ha⟩
  · have h : s.GoesOn := ⟨hs, he, ha⟩
    by_cases hc : Completes s
    · exact .inr ⟨(h.stick_completes hc).1, .inr hc⟩
    · exact .inl (h.stick_stays hc).1

/-- The first tick of `Countdown` clears the accumulator, so that it can abort and not complete. -/
theorem stick_state_of_countdown {s : State} (hs : s.blk.ctl.state = .countdown) :
    s.stick.blk.ctl.state = .countdown ∨ SlowTransition s s.stick.blk.ctl.state := by
  cases he : s.blk.ctl.entered
  case false =>
    have hfirst : s.stick.blk.ctl = (s.withBlock s.blk.countdownEntered).stick.blk.ctl := by
      rw [State.stick, Block.slowTick_countdown_first hs he]
      rfl
    have hincomplete : ¬Completes (s.withBlock s.blk.countdownEntered) := fun hc =>
      absurd (show 0 = 49 from hc.1.1) (by decide)
    rw [hfirst]
    exact (stick_state_of_countdown_entered (s := s.withBlock s.blk.countdownEntered) hs rfl).imp_right
      fun ⟨hdone, hcause⟩ => .inr (.inr (.inl ⟨hs, hdone, .inl (hcause.resolve_right hincomplete)⟩))
  case true =>
    exact (stick_state_of_countdown_entered hs he).imp_right
      fun ⟨hdone, hcause⟩ => .inr (.inr (.inl ⟨hs, hdone, hcause.imp_right fun hc => ⟨he, hc⟩⟩))

/-- Only the 250th tick leaves `Done`. -/
theorem stick_state_of_done {s : State} (hs : s.blk.ctl.state = .done) :
    s.stick.blk.ctl.state = .done ∨ SlowTransition s s.stick.blk.ctl.state := by
  cases he : s.blk.ctl.entered
  case false =>
    have hfirst : s.stick.blk.ctl = (s.withBlock s.blk.doneEntered).stick.blk.ctl := by
      rw [State.stick, Block.slowTick_done_first hs he]
      rfl
    rw [hfirst]
    exact .inl ((finishes_of_entry hs).stick (by decide)).state
  case true =>
    obtain ⟨t, ht, -, -, hreset, hcounts⟩ := doneTickCountsAndSwaps s hs he
    obtain rfl := stick_eq_of_exec ht
    by_cases hlast : s.blk.ctl.doneCount.val = 249
    · obtain ⟨hwaiting, -⟩ := hreset hlast
      exact .inr (.inr (.inr (.inr ⟨hs, hwaiting, he, hlast⟩)))
    · obtain ⟨-, -, -, -, -, hctl⟩ := hcounts hlast
      exact .inl (by rw [hctl]; exact hs)

theorem stick_state (s : State) :
    s.stick.blk.ctl.state = s.blk.ctl.state ∨ SlowTransition s s.stick.blk.ctl.state := by
  cases hs : s.blk.ctl.state
  case waiting => exact stick_state_of_waiting hs
  case timeEntry => exact stick_state_of_timeEntry hs
  case countdown => exact stick_state_of_countdown hs
  case done => exact stick_state_of_done hs

/-- Settles O51: a derived slow tick sees the control domain and the pins that the fast tick left alone, and every other
operation but `RST` keeps the state. -/
theorem onlyTheListedTransitions : Obligations.OnlyTheListedTransitions := by
  intro i s t h
  cases i <;> cases h
  case rst => exact .inr (.inl ⟨rfl, rfl⟩)
  case stick => exact (stick_state s).imp_right fun htransition => .inr ⟨.inl rfl, htransition⟩
  case tick =>
    cases ht : atTop s.blk.slowDiv
    case true =>
      have h19 : s.blk.slowDiv.val = 19 := Nat.succ_inj.1 ((atTop_iff _).1 ht)
      rw [State.withBlock_blk, Block.derivedTick_slow ht]
      exact (stick_state (s.withBlock { s.blk.fastTick with slowDiv := wrapNext s.blk.slowDiv })).imp_right
        fun htransition => .inr ⟨.inr ⟨rfl, h19⟩, htransition⟩
    case false =>
      rw [State.withBlock_blk, Block.derivedTick_fast ht]
      exact .inl rfl
  case cmd ch =>
    obtain ⟨_, _, hframe⟩ := s.blk.command_frame ch
    exact .inl (by rw [State.withBlock_blk, hframe])
  case line n dg =>
    obtain ⟨_, _, _, hframe⟩ := s.blk.line_frame n dg
    exact .inl (by rw [State.withBlock_blk, hframe])
  all_goals exact .inl rfl

end Sys2Proof.Machine
end

section
/-! The text of the status line (43_fsm_controller.md R137): numbers as their decimal digits. -/

namespace Sys2Proof.Machine

theorem toDigits_ten_of_lt_100 {n : Nat} (hlow : 10 ≤ n) (hn : n < 100) :
    Nat.toDigits 10 n = [Nat.digitChar (n / 10), Nat.digitChar (n % 10)] := by
  rw [Nat.toDigits_of_base_le (by decide) hlow, Nat.toDigits_of_lt_base (by omega)]
  rfl

theorem toDigits_ten_of_lt_1000 {n : Nat} (hlow : 100 ≤ n) (hn : n < 1000) :
    Nat.toDigits 10 n = [Nat.digitChar (n / 100), Nat.digitChar (n / 10 % 10), Nat.digitChar (n % 10)] := by
  rw [Nat.toDigits_of_base_le (by decide) (by omega), toDigits_ten_of_lt_100 (by omega) (by omega), Nat.div_div_eq_div_mul]
  rfl

theorem toDigits_ten_of_lt_10000 {n : Nat} (hlow : 1000 ≤ n) (hn : n < 10000) :
    Nat.toDigits 10 n
      = [Nat.digitChar (n / 1000), Nat.digitChar (n / 100 % 10), Nat.digitChar (n / 10 % 10), Nat.digitChar (n % 10)] := by
  rw [Nat.toDigits_of_base_le (by decide) (by omega), toDigits_ten_of_lt_1000 (by omega) (by omega),
    Nat.div_div_eq_div_mul, Nat.div_div_eq_div_mul]
  rfl

/-- `dec(v)` of a value of at most four digits, by its digits. -/
theorem decText_of_lt_10000 {n : Nat} (hn : n < 10000) :
    decText n = String.ofList
      (if n < 10 then [Nat.digitChar n]
      else if n < 100 then [Nat.digitChar (n / 10), Nat.digitChar (n % 10)]
      else if n < 1000 then [Nat.digitChar (n / 100), Nat.digitChar (n / 10 % 10), Nat.digitChar (n % 10)]
      else [Nat.digitChar (n / 1000), Nat.digitChar (n / 100 % 10), Nat.digitChar (n / 10 % 10),
        Nat.digitChar (n % 10)]) := by
  rw [decText]
  congr 1
  split
  next h => exact Nat.toDigits_of_lt_base h
  next h =>
    split
    next h' => exact toDigits_ten_of_lt_100 (Nat.le_of_not_lt h) h'
    next h' =>
      split
      next h'' => exact toDigits_ten_of_lt_1000 (Nat.le_of_not_lt h') h''
      next h'' => exact toDigits_ten_of_lt_10000 (Nat.le_of_not_lt h'') hn

/-- `dec2(v)` pads a value below 10 with its leading zero. -/
theorem dec2Text_of_lt_100 {n : Nat} (hn : n < 100) :
    dec2Text n = String.ofList [Nat.digitChar (n / 10), Nat.digitChar (n % 10)] := by
  rw [dec2Text, decText]
  split
  next h =>
    rw [Nat.toDigits_of_lt_base h, Nat.div_eq_of_lt h, Nat.mod_eq_of_lt h]
    exact String.ofList_append.symm
  next h => rw [toDigits_ten_of_lt_100 (Nat.le_of_not_lt h) hn]

/-- Minutes and seconds as the status line shows them. -/
theorem clockText {m sec : Nat} (hm : m < 100) (hsec : sec < 100) :
    dec2Text m ++ ":" ++ dec2Text sec
      = String.ofList [Nat.digitChar (m / 10), Nat.digitChar (m % 10), ':', Nat.digitChar (sec / 10),
          Nat.digitChar (sec % 10)] := by
  rw [dec2Text_of_lt_100 hm, dec2Text_of_lt_100 hsec, show ":" = String.ofList [':'] from rfl, ← String.ofList_append,
    ← String.ofList_append]
  rfl

theorem OutPorts.modeText_eq (o : OutPorts) : o.modeText = if o.blinkIndicator then "BLINK" else "SOLID" := rfl

/-- The line of R137, with the clock as one text. Proofs rewrite with this equation, since unfolding `statusLine` is costly. -/
theorem OutPorts.statusLine_eq (o : OutPorts) :
    o.statusLine = "Time remaining: " ++ (dec2Text o.minutes.toNat ++ ":" ++ dec2Text o.seconds.toNat) ++
      (if o.extendedInfo then
        " | ADC = " ++ decText o.adcSample.toNat ++ " | LED2 dutyTicks = " ++ decText o.dutyTicks.toNat ++
          " | LED2 mode = " ++ o.modeText
      else "") := by
  rw [← String.append_assoc, ← String.append_assoc]
  rfl

/-- Settles O59: the ports show the fields without loss (`portsShowTheirFields`), and each field has at most as many digits as the
line spells out. -/
theorem statusLineShowsTheTime : Obligations.StatusLineShowsTheTime := by
  intro s a ha
  obtain ⟨hminutes, hseconds, hduty, -, -, -, -, -, -, hextended, hmode, hadc⟩ := portsShowTheirFields s
  have hclock := clockText s.blk.ctl.minutes_lt (s.blk.ctl.seconds_lt.trans (by decide))
  have hanalog : a < 10000 := ha ▸ s.blk.ctl.adcSample_lt.trans (by decide)
  have hone : decText s.blk.ctl.dutyTicks.val = String.ofList [Nat.digitChar s.blk.ctl.dutyTicks.val] := by
    rw [decText, Nat.toDigits_of_lt_base (s.blk.ctl.dutyTicks_lt.trans (by decide))]
  rw [OutPorts.statusLine_eq, OutPorts.modeText_eq, hminutes, hseconds, hduty, hextended, hmode, hadc, ← ha, hclock, hone,
    decText_of_lt_10000 hanalog]

end Sys2Proof.Machine
end

section
/-! The host and environment operations (44_host_operations.md): what `NOP` leaves to later operations, what becomes of a
character that arrives before the first tick of `Countdown`, and `TICK` as its two parts. -/

namespace Sys2Proof.Machine

open Sys2Proof.Safety

variable {p : Params}

/-! ### The environment's pins (R143, R144) -/

/-- Settles O16. -/
theorem btnWritesTheLevels : Obligations.BtnWritesTheLevels := fun _ _ => rfl

/-- Settles O17. -/
theorem adcWritesTheValue : Obligations.AdcWritesTheValue := fun val s =>
  ⟨{ s with blk.pinAdc := analogReading val, blk.out := Out.none }, rfl, analogReading_val val, rfl⟩

/-! ### `NOP` (R140) -/

theorem exec_nop (s : State) : exec .nop s = .next { s with blk.out := Out.none } := rfl

/-- `NOP` clears the output record, which the operation after it does not read. -/
theorem perform_nop_cons {ys : List Instr} (hys : ys ≠ []) (s : State) : perform (.nop :: ys) s = perform ys s := by
  cases ys with
  | nil => exact absurd rfl hys
  | cons i is => simp only [perform, exec_nop, exec_ignores_out]

/-- Settles O15: after any sequence before it, a `NOP` is the first of the operations that are left. -/
theorem nopChangesNothing : Obligations.NopChangesNothing := by
  refine ⟨exec_nop, fun xs ys s => ⟨fun hys => ?_, fun t ht => ?_⟩⟩
  · obtain ⟨b, hb⟩ := perform_eq_next xs s
    rw [perform_append _ hb, perform_append _ hb, perform_nop_cons hys]
  · rw [perform_append _ ht]
    rfl

/-! ### `TICK` (R142) -/

theorem exec_tick (s : State) : exec .tick s = .next (s.withBlock s.blk.derivedTick) := rfl

/-- At the default parameters the 20th `TICK` is the one at which the divider is 19. -/
theorem atTop_slowDiv (b : Block Config.params) : atTop b.slowDiv = true ↔ b.slowDiv.val = 19 :=
  (atTop_iff _).trans (Nat.succ_inj (b := 19))

theorem wrapNext_of_atTop {n : Nat} {c : Fin n} (h : atTop c = true) : wrapNext c = ⟨0, c.pos⟩ := by
  rw [Fin.ext_iff, wrapNext_val, (atTop_iff c).1 h, Nat.mod_self]

/-- Settles O19: the two cases of the divider are the two cases of a derived tick. -/
theorem tickIsFtickThenStick : Obligations.TickIsFtickThenStick := by
  intro s
  refine ⟨s.ftick, s.stick, exec_ftick s, rfl, exec_stick s, Block.slowTick_slowDiv _, fun h19 => ?_, fun hne => ?_⟩
  · have htop := (atTop_slowDiv s.blk).2 h19
    refine ⟨_, exec_stick _, ?_, congrArg Fin.val (Block.slowTick_slowDiv _)⟩
    rw [exec_tick, Block.derivedTick_slow htop, wrapNext_of_atTop htop]
    rfl
  · have hbelow : atTop s.blk.slowDiv = false := by rwa [← Bool.not_eq_true, atTop_slowDiv]
    rw [exec_tick, Block.derivedTick_fast hbelow]
    exact ⟨_, rfl, wrapNext_val_of_not_atTop hbelow, rfl, rfl⟩

/-! ### The pending character and the tick body of `Countdown` -/

/-- The block with another character in the register of the pending one. -/
def Block.withChar (b : Block p) (ch : Byte) : Block p := { b with ctl.cmdChar := ch }

/-- Another character beside what step (1) of `Countdown` makes of the block. -/
def Served.withChar (ch : Byte) : Served p → Served p
  | .aborted b => .aborted (b.withChar ch)
  | .goesOn b => .goesOn (b.withChar ch)

theorem Block.countdownButton_withChar (b : Block p) (ch : Byte) :
    (b.withChar ch).countdownButton = b.countdownButton.withChar ch := by
  unfold Block.countdownButton
  rw [apply_ite (Served.withChar ch), apply_ite (Served.withChar ch)]
  rfl

/-- Step (1) raises no flag. -/
theorem Block.cmdAvail_of_countdownButton {b b' : Block p} (h : b.countdownButton = .goesOn b') :
    b'.ctl.cmdAvail = b.ctl.cmdAvail := by
  obtain hb | ⟨_, _, -, hb⟩ := b.countdownButton_cases
  · cases h.symm.trans hb
  · cases h.symm.trans hb
    rfl

/-- With the flag clear, step (2) leaves the block as it is, whatever the character. -/
theorem Block.countdownCommand_of_no_char {b : Block p} (h : b.ctl.cmdAvail = false) : b.countdownCommand = b := by
  simp [Block.countdownCommand, h]

theorem Block.countdownSecond_withChar (b : Block p) (ch : Byte) :
    (b.withChar ch).countdownSecond = b.countdownSecond.withChar ch := by
  by_cases hb : b.ctl.secondBoundary = true ∧ b.ctl.paused = false
  · obtain ⟨hsec, hrun⟩ := hb
    cases hc : b.ctl.duration.decrement.complete
    · rw [Block.countdownSecond_decrements hsec hrun hc]
      exact Block.countdownSecond_decrements hsec hrun hc
    · rw [Block.countdownSecond_completes hsec hrun hc]
      exact Block.countdownSecond_completes hsec hrun hc
  · rw [Block.countdownSecond_counts hb]
    exact Block.countdownSecond_counts hb

/-- The tick body inspects the character only where the flag says that one is pending (R121). -/
theorem Block.countdownBody_withChar {b : Block p} (h : b.ctl.cmdAvail = false) (ch : Byte) :
    (b.withChar ch).countdownBody = b.countdownBody.withChar ch := by
  have hbutton := b.countdownButton_withChar ch
  cases hb : b.countdownButton with
  | aborted b' =>
    rw [hb] at hbutton
    rw [Block.countdownBody_aborted hb, Block.countdownBody_aborted hbutton]
  | goesOn b' =>
    rw [hb] at hbutton
    have hclear : b'.ctl.cmdAvail = false := (Block.cmdAvail_of_countdownButton hb).trans h
    rw [Block.countdownBody_goesOn hb, Block.countdownBody_goesOn hbutton, Block.countdownCommand_of_no_char hclear,
      Block.countdownCommand_of_no_char (b := b'.withChar ch) hclear, ← Block.countdownSecond_withChar]
    rfl

/-- No character is pending after the tick body: an abort drops it and step (2) drains it. -/
theorem Block.countdownBody_cmdAvail (b : Block p) : b.countdownBody.ctl.cmdAvail = false := by
  obtain hb | ⟨_, _, -, hb⟩ := b.countdownButton_cases
  · rw [Block.countdownBody_aborted hb]
  · obtain ⟨_, _, _, _, _, _, _, hsecond⟩ := Block.countdownSecond_writes (Block.programTarget _)
    rw [Block.countdownBody_goesOn hb, hsecond]
    exact Block.countdownCommand_cmdAvail _

/-! ### `CMD` (R145) -/

@[simp] theorem Block.command_state (b : Block p) (ch : Byte) : (b.command ch).ctl.state = b.ctl.state := by
  obtain ⟨_, _, hframe⟩ := b.command_frame ch
  rw [hframe]

@[simp] theorem Block.command_entered (b : Block p) (ch : Byte) : (b.command ch).ctl.entered = b.ctl.entered := by
  obtain ⟨_, _, hframe⟩ := b.command_frame ch
  rw [hframe]

/-- The entry action clears the flag of a character that came before it (R120), so that the tick is the one without it. -/
theorem Block.slowTick_command_first {b : Block p} (ch : Byte) (hs : b.ctl.state = .countdown)
    (he : b.ctl.entered = false) : (b.command ch).slowTick = b.slowTick.withChar ch := by
  have hs' : (b.command ch).ctl.state = .countdown := (b.command_state ch).trans hs
  have hentry : (b.command ch).quiet.enter Block.countdownEntry = b.quiet.countdownEntry.withChar ch := by
    have he' : (b.command ch).ctl.entered = false := (b.command_entered ch).trans he
    rw [Block.enter_of_not_entered (b := (b.command ch).quiet) he', Block.command_latches ch hs]
    rfl
  rw [Block.slowTick_countdown hs', hentry, Block.countdownBody_withChar rfl, Block.slowTick_countdown hs,
    Block.enter_of_not_entered (b := b.quiet) he]

/-- No character is pending after a slow tick of `Countdown`. -/
theorem Block.slowTick_countdown_cmdAvail {b : Block p} (hs : b.ctl.state = .countdown) :
    b.slowTick.ctl.cmdAvail = false := by
  rw [Block.slowTick_countdown hs]
  exact Block.countdownBody_cmdAvail _

theorem exec_cmd (ch : Byte) (s : State) : exec (.cmd ch) s = .next (s.withBlock (s.blk.command ch)) := rfl

/-- Settles O18: an early character stays in its register, and the first tick leaves everything else as it would be without it. -/
theorem cmdLatchesInCountdownOnly : Obligations.CmdLatchesInCountdownOnly := by
  intro ch s
  refine ⟨fun hs => ?_, fun hs => ?_, fun hs he => ?_⟩
  · rw [exec_cmd, Block.command_latches ch hs]
    rfl
  · rw [exec_cmd, Block.command_drops ch hs]
    rfl
  · have htick := Block.slowTick_command_first ch hs he
    refine ⟨s.withBlock (s.blk.command ch).slowTick, s.stick, rfl, exec_stick s, ?_, ?_⟩
    · rw [htick]
      rfl
    · exact Block.slowTick_countdown_cmdAvail ((Block.command_state _ ch).trans hs)

end Sys2Proof.Machine
end

section
/-! Events and resets (60_exceptions.md): every operation completes, and one clock's events are performed as a sequence of
operations would be, but for the output record. -/

namespace Sys2Proof.Machine

open Sys2Proof.Safety

/-! ### Totality (R155) -/

/-- Settles O12. -/
theorem everyOperationCompletes : Obligations.EveryOperationCompletes := by
  intro i s
  obtain ⟨b, hb⟩ := exec_eq_next i s
  exact ⟨s.withBlock b, hb, rfl⟩

/-! ### One clock (R36, R160) -/

/-- Gathering the records of a sequence changes nothing but the record at its end, since no operation reads one (R37). -/
theorem performAll_of_perform {is : List Instr} {s u : State} (h : perform is s = .next u) (o : Out) :
    ∃ o', performAll is { s with blk.out := o } = .next { u with blk.out := o' } := by
  induction is generalizing s o with
  | nil =>
    cases h
    exact ⟨o, rfl⟩
  | cons i is ih =>
    obtain ⟨b, hb⟩ := exec_eq_next i s
    simp only [perform, hb] at h
    simp only [performAll, exec_ignores_out, hb]
    exact ih h (o.merge b.out)

/-- Every clock completes; it leaves what its operations leave as a sequence, but for the record. -/
theorem State.clock_of_perform {s u : State} {src : SlowSource} {i : InPorts}
    (h : perform (i.operations src) s = .next u) : ∃ o, s.clock src i = .next { u with blk.out := o } :=
  performAll_of_perform h Out.none

theorem SlowSource.fastOp_eq (src : SlowSource) : src.fastOp = if src = .derived then .tick else .ftick := by
  cases src <;> rfl

/-- A reset discards the other events. -/
theorem InPorts.operations_of_rst {i : InPorts} (h : i.rst = true) (src : SlowSource) : i.operations src = [.rst] := by
  simp [InPorts.operations, h]

/-- Without a reset: the pins, the fast tick, the slow tick, the character, the line. -/
theorem InPorts.operations_of_no_rst {i : InPorts} (h : i.rst = false) (src : SlowSource) :
    i.operations src = [.btn i.btnN, .adc i.adc] ++
      (if i.ftickEn then [if src = .derived then .tick else .ftick] else []) ++ (if i.stickEn then [.stick] else []) ++
      (i.cmd.toList.map (fun ch => .cmd ch)) ++ (i.line.toList.map (fun l => .line l.1 l.2)) := by
  rw [InPorts.operations, h, src.fastOp_eq]
  cases i.cmd <;> cases i.line <;> rfl

/-- The clock of a reset leaves what `RST` leaves, the record included. -/
theorem State.clock_of_rst {i : InPorts} (h : i.rst = true) (s : State) (src : SlowSource) :
    s.clock src i = exec .rst s := by
  rw [State.clock, InPorts.operations_of_rst h]
  rfl

/-- Settles O58: `u` is the state that the clock's operations leave as a sequence. -/
theorem clockPerformsEventsInOrder : Obligations.ClockPerformsEventsInOrder := by
  intro s src i
  cases hrst : i.rst with
  | true =>
    exact ⟨s.withBlock s.blk.restart, s.withBlock s.blk.restart, State.clock_of_rst hrst s src, rfl, fun _ => ⟨rfl, rfl⟩,
      fun h => absurd h (by decide)⟩
  | false =>
    obtain ⟨b, hb⟩ := perform_eq_next (i.operations src) s
    obtain ⟨o, ho⟩ := State.clock_of_perform hb
    refine ⟨_, s.withBlock b, ho, rfl, fun h => absurd h (by decide), fun _ => ?_⟩
    rw [← InPorts.operations_of_no_rst hrst, hb]

end Sys2Proof.Machine
end

section
/-! Programs (30_encoding.md R50, 70_reset_and_hazards.md R188): every operation is a function of the block alone, so that
performing a list of operations and running its byte form as a stream both fold that function over the block. -/

namespace Sys2Proof.Machine

open Sys2Proof.Safety

/-- What an operation makes of the block (R52). -/
def Block.operate (b : Block Config.params) : Instr → Block Config.params
  | .nop => b.quiet
  | .rst => b.restart
  | .ftick => b.fastTick
  | .stick => b.slowTick
  | .tick => b.derivedTick
  | .btn lv => b.btn lv
  | .adc val => { b.quiet with pinAdc := analogReading val }
  | .cmd ch => b.command ch
  | .line n dg => b.line n dg

theorem exec_eq_operate (i : Instr) (s : State) : exec i s = .next (s.withBlock (s.blk.operate i)) := by
  cases i <;> rfl

theorem perform_eq_foldl (ops : List Instr) (s : State) :
    perform ops s = .next (s.withBlock (ops.foldl Block.operate s.blk)) := by
  induction ops generalizing s with
  | nil => rfl
  | cons i is ih =>
    simp only [perform, exec_eq_operate, ih]
    rfl

theorem streamBytes_cons (i : Instr) (is : List Instr) :
    streamBytes (i :: is) = wordBytes (encode i) ++ streamBytes is := List.flatMap_cons

theorem run_succ_of_step {M : Host.Core} {s t : M.State} (h : M.step s = .next t) (n : Nat) :
    M.run (n + 1) s = M.run n t := by
  simp [Host.Core.run, h]

/-- One step for each operation takes its word off the stream (R50). -/
theorem core_run_streamBytes {ops : List Instr} {s : State} (h : s.stream = streamBytes ops) :
    core.run ops.length s =
      .next { blk := ops.foldl Block.operate s.blk, stream := [], wordIndex := s.wordIndex + ops.length } := by
  induction ops generalizing s with
  | nil =>
    rw [← show s.stream = [] from h]
    rfl
  | cons i is ih =>
    have hstep : step s = .next { blk := s.blk.operate i, stream := streamBytes is, wordIndex := s.wordIndex + 1 } :=
      (stepPerformsTheNextWord s i _ (h.trans (streamBytes_cons i is))).trans (exec_eq_operate i _)
    rw [List.length_cons, run_succ_of_step (M := core) hstep, ih rfl, Nat.add_assoc, Nat.add_comm 1]
    rfl

/-- Settles O11: the run and the list of operations fold the same function over the block. -/
theorem everyProgramRunsToItsEnd : Obligations.EveryProgramRunsToItsEnd := fun ops s hs =>
  ⟨_, core_run_streamBytes hs, rfl, rfl, perform_eq_foldl ops s⟩

end Sys2Proof.Machine
end

section
/-! The waits of `TimeEntry` (43_fsm_controller.md R119, 70_reset_and_hazards.md R184): a block that waits for a line, or for a
combo that nobody presses, keeps its control domain and its duty target under every operation that does not end the wait. -/

namespace Sys2Proof.Machine

open Sys2Proof.Safety

variable {p : Params}

/-- An entered `TimeEntry` whose tick body has nothing to do: it waits for a line, or for a combo of which nothing was sampled
and nothing is to be. -/
structure Block.RestsInTimeEntry (b : Block p) : Prop where
  state : b.ctl.state = .timeEntry
  entered : b.ctl.entered = true
  clear : b.ctl.tePhase = .armed → b.ctl.hold.cmb = HoldCounter.zero p
  noCombo : b.ctl.tePhase = .armed → comboAsserted p b.pinBtn = false

/-- Beside the control domain the wait depends on the buttons alone. -/
theorem Block.RestsInTimeEntry.of_ctl_eq {b b' : Block p} (h : b.RestsInTimeEntry) (hctl : b'.ctl = b.ctl)
    (hpins : b.ctl.tePhase = .armed → comboAsserted p b'.pinBtn = false) : b'.RestsInTimeEntry where
  state := hctl ▸ h.state
  entered := hctl ▸ h.entered
  clear := hctl ▸ h.clear
  noCombo := hctl ▸ hpins

theorem Block.RestsInTimeEntry.slowTick_eq {b : Block p} (h : b.RestsInTimeEntry) : b.slowTick = b.quiet := by
  rw [Block.slowTick_timeEntry_entered h.state h.entered]
  cases hphase : b.ctl.tePhase with
  | prompt => exact Block.timeEntryBody_prompt (b := b.quiet) hphase
  | armed =>
    have hclear := h.clear hphase
    rw [Block.timeEntryBody_idle (b := b.quiet) hphase (h.noCombo hphase) (by rw [Block.quiet_ctl, hclear]; rfl), ← hclear]
    rfl

/-- The slow tick of a `TICK`, where one comes, finds the block at rest too. -/
theorem Block.RestsInTimeEntry.derivedTick_eq {b : Block p} (h : b.RestsInTimeEntry) :
    b.derivedTick = { b.fastTick with slowDiv := wrapNext b.slowDiv } := by
  cases htop : atTop b.slowDiv with
  | false => exact Block.derivedTick_fast htop
  | true =>
    have hrests : { b.fastTick with slowDiv := wrapNext b.slowDiv }.RestsInTimeEntry := h.of_ctl_eq rfl h.noCombo
    rw [Block.derivedTick_slow htop, hrests.slowTick_eq]
    rfl

/-- Outside `Waiting` a fast tick leaves the duty target alone (R88). -/
theorem Block.fastTick_target_of_not_waiting {b : Block p} (h : b.ctl.state ≠ .waiting) :
    b.fastTick.gen.target = b.gen.target :=
  not_imp_comm.1 Block.state_of_fastTick_target_ne h

/-- The operations that end no wait of `TimeEntry` in the phase given: no reset, no line that is accepted, no press of the
combo that is sampled. -/
def SparesTimeEntry (phase : TePhase) : Instr → Prop
  | .rst => False
  | .line _ _ => phase = .armed
  | .btn lv => phase = .armed → comboAsserted Config.params lv = false
  | _ => True

/-- Such an operation writes neither the control domain nor the duty target, and samples no combo. -/
theorem Block.RestsInTimeEntry.operate_writes {b : Block Config.params} (h : b.RestsInTimeEntry) {i : Instr}
    (hi : SparesTimeEntry b.ctl.tePhase i) :
    (b.operate i).ctl = b.ctl ∧ (b.operate i).gen.target = b.gen.target ∧
      (b.ctl.tePhase = .armed → comboAsserted Config.params (b.operate i).pinBtn = false) := by
  have hstate : b.ctl.state ≠ .waiting := by simp [h.state]
  cases i with
  | rst => exact hi.elim
  | nop => exact ⟨rfl, rfl, h.noCombo⟩
  | adc val => exact ⟨rfl, rfl, h.noCombo⟩
  | btn lv => exact ⟨rfl, rfl, hi⟩
  | ftick => exact ⟨rfl, Block.fastTick_target_of_not_waiting hstate, h.noCombo⟩
  | stick =>
    rw [Block.operate, h.slowTick_eq]
    exact ⟨rfl, rfl, h.noCombo⟩
  | tick =>
    rw [Block.operate, h.derivedTick_eq]
    exact ⟨rfl, Block.fastTick_target_of_not_waiting hstate, h.noCombo⟩
  | cmd ch =>
    rw [Block.operate, Block.command_drops ch (by simp [h.state])]
    exact ⟨rfl, rfl, h.noCombo⟩
  | line n dg =>
    have harmed : b.ctl.tePhase = .armed := hi
    have hdropped : b.ctl.acceptsLine = false := by simp [Control.acceptsLine, harmed]
    rw [Block.operate, Block.line_dropped n dg hdropped]
    exact ⟨rfl, rfl, h.noCombo⟩

theorem Block.RestsInTimeEntry.foldl_operate {b : Block Config.params} (h : b.RestsInTimeEntry) {ops : List Instr}
    (hops : ∀ i ∈ ops, SparesTimeEntry b.ctl.tePhase i) :
    (ops.foldl Block.operate b).ctl = b.ctl ∧ (ops.foldl Block.operate b).gen.target = b.gen.target := by
  induction ops generalizing b with
  | nil => exact ⟨rfl, rfl⟩
  | cons i is ih =>
    obtain ⟨hi, his⟩ := List.forall_mem_cons.1 hops
    obtain ⟨hctl, htarget, hpins⟩ := h.operate_writes hi
    obtain ⟨hctl', htarget'⟩ := ih (h.of_ctl_eq hctl hpins) (hctl ▸ his)
    exact ⟨hctl'.trans hctl, htarget'.trans htarget⟩

theorem sparesTimeEntry_prompt {ops : List Instr} (hrst : .rst ∉ ops) (hline : ∀ n dg, .line n dg ∉ ops) :
    ∀ i ∈ ops, SparesTimeEntry .prompt i := by
  intro i hmem
  cases i with
  | rst => exact hrst hmem
  | line n dg => exact absurd hmem (hline n dg)
  | btn lv => exact fun harmed => nomatch harmed
  | _ => trivial

theorem sparesTimeEntry_armed {ops : List Instr} (hrst : .rst ∉ ops)
    (hbtn : ∀ lv : BitVec 3, .btn lv ∈ ops → lv.getLsbD 1 = true ∨ lv.getLsbD 2 = true) :
    ∀ i ∈ ops, SparesTimeEntry .armed i := by
  intro i hmem
  cases i with
  | rst => exact hrst hmem
  | line n dg => rfl
  | btn lv =>
    intro _
    rw [Bool.eq_false_iff, ne_eq, comboAsserted_iff]
    rintro ⟨hA, hB⟩
    obtain h | h := hbtn lv hmem
    · exact Bool.false_ne_true (hA.symm.trans h)
    · exact Bool.false_ne_true (hB.symm.trans h)
  | _ => trivial

/-- Settles O38: in either wait the block is at rest, and the operations named spare it. -/
theorem timeEntryWaitsForEver : Obligations.TimeEntryWaitsForEver := by
  intro ops s hstate hentered hrst hwait
  suffices h : s.blk.RestsInTimeEntry ∧ ∀ i ∈ ops, SparesTimeEntry s.blk.ctl.tePhase i by
    obtain ⟨hrests, hspares⟩ := h
    exact ⟨_, perform_eq_foldl ops s, hrests.foldl_operate hspares⟩
  obtain ⟨hprompt, hline⟩ | ⟨harmed, hclear, hreleased, hbtn⟩ := hwait
  · have hnot : s.blk.ctl.tePhase ≠ .armed := by simp [hprompt]
    exact ⟨⟨hstate, hentered, fun h => absurd h hnot, fun h => absurd h hnot⟩,
      hprompt ▸ sparesTimeEntry_prompt hrst hline⟩
  · have hnocombo : comboAsserted Config.params s.blk.pinBtn = false :=
      Bool.eq_false_iff.2 fun h => hreleased ((comboAsserted_iff _).1 h)
    exact ⟨⟨hstate, hentered, fun _ => hclear, fun _ => hnocombo⟩, harmed ▸ sparesTimeEntry_armed hrst hbtn⟩

end Sys2Proof.Machine
end
